-- ==== Sys2Proof/Word.lean ====
section
/-! DEFINITION. The word types of the block (00_scope.md R10 to R12) and the shape of a header register. -/

namespace Sys2Proof

/-- One data byte of a stream or of a header register (R65: one byte per beat). -/
abbrev Byte := BitVec 8

/-- A 16-bit header field or header word. -/
abbrev Half := BitVec 16

/-- A 32-bit IPv4 address. -/
abbrev Ip := BitVec 32

/-- A 48-bit hardware (MAC) address. -/
abbrev Mac := BitVec 48

/-- A header register: the twenty bytes at offsets 0 to 19, the only address space of the block (20_memory.md R60). -/
abbrev Header := Vector Byte 20

/-- A header register whose bytes are all 0x00 (10_state.md R27, R31). -/
def Header.zero : Header := Vector.replicate 20 0

/-- Both checksum engine instances (41_checksum.md R139, R140): `tx` skips the checksum word, `rx` does not. -/
inductive CkInst where
  | tx
  | rx
  deriving DecidableEq, Repr, Inhabited

end Sys2Proof
end

