-- ==== Sys2Proof/Ports.lean ====
section
/-! DEFINITION. The signals of every port, with their widths (30_encoding.md R97 to R104), as plain records. -/

namespace Sys2Proof

/-- A beat of `UTX[k]` or of `MO` (R98, R104): payload byte, markers and submission sideband. -/
structure SubBeat where
  valid : Bool := false
  data : Byte := 0
  sop : Bool := false
  eop : Bool := false
  dstIp : Ip := 0
  protocol : Byte := 0
  length : Half := 0
  deriving DecidableEq, Repr, Inhabited

/-- A beat of `FRS` (R104). -/
structure FrsBeat where
  valid : Bool := false
  data : Byte := 0
  sop : Bool := false
  eop : Bool := false
  deriving DecidableEq, Repr, Inhabited

/-- A beat of `L2RX` or of `EXS` (R101, R104): a byte with its markers and the transport's error flag. -/
structure RawBeat where
  valid : Bool := false
  data : Byte := 0
  sop : Bool := false
  eop : Bool := false
  error : Bool := false
  deriving DecidableEq, Repr, Inhabited

/-- A beat of `URX[k]` or of `RXO` (R99, R104): payload byte, markers, error flag and delivery sideband. -/
structure DelBeat where
  valid : Bool := false
  data : Byte := 0
  sop : Bool := false
  eop : Bool := false
  error : Bool := false
  srcIp : Ip := 0
  protocol : Byte := 0
  length : Half := 0
  deriving DecidableEq, Repr, Inhabited

/-- A beat of `L2TX` (R100): datagram byte, markers, error flag and the Ethernet sideband. -/
structure FrameBeat where
  valid : Bool := false
  data : Byte := 0
  sop : Bool := false
  eop : Bool := false
  error : Bool := false
  dstMac : Mac := 0
  srcMac : Mac := 0
  ethertype : Half := 0
  deriving DecidableEq, Repr, Inhabited

/-- The resolver request `ARQ` (R102). -/
structure ArqMsg where
  valid : Bool := false
  ip : Ip := 0
  deriving DecidableEq, Repr, Inhabited

/-- The resolver response `ARS` (R103). -/
structure ArsMsg where
  valid : Bool := false
  mac : Mac := 0
  failed : Bool := false
  deriving DecidableEq, Repr, Inhabited

/-- Every input of the block in one clock cycle (47_top_level.md R340, R350). The lists are indexed by user port;
a port past the end of a list presents no beat and is not ready. -/
structure Inputs where
  rst : Bool := false
  utx : List SubBeat := []
  urxReady : List Bool := []
  l2txReady : Bool := false
  l2rx : RawBeat := {}
  arqReady : Bool := false
  ars : ArsMsg := {}
  deriving DecidableEq, Repr, Inhabited

/-- What `MUX` drives in one cycle (46_crossbar.md R303). -/
structure MuxOut where
  mo : SubBeat := {}
  utxReady : List Bool := []
  deriving DecidableEq, Repr, Inhabited

/-- What `FR` drives in one cycle (42_framer.md R162). -/
structure FrOut where
  moReady : Bool := false
  frs : FrsBeat := {}
  deriving DecidableEq, Repr, Inhabited

/-- What a checksum engine instance drives in one cycle (41_checksum.md R135). -/
structure CkOut where
  value : Half := 0
  done : Bool := false
  deriving DecidableEq, Repr, Inhabited

/-- What `TXP` drives in one cycle (44_tx_pipeline.md R220). -/
structure TxOut where
  frsReady : Bool := false
  l2tx : FrameBeat := {}
  arq : ArqMsg := {}
  arsReady : Bool := false
  unreachable : Bool := false
  deriving DecidableEq, Repr, Inhabited

/-- What `EX` drives in one cycle (43_extractor.md R191). -/
structure ExOut where
  l2rxReady : Bool := false
  exs : RawBeat := {}
  deriving DecidableEq, Repr, Inhabited

/-- What `RXP` drives in one cycle (45_rx_pipeline.md R261). -/
structure RxOut where
  exsReady : Bool := false
  rxo : DelBeat := {}
  deriving DecidableEq, Repr, Inhabited

/-- What `DMX` drives in one cycle (46_crossbar.md R310). -/
structure DmxOut where
  rxoReady : Bool := false
  urx : List DelBeat := []
  deriving DecidableEq, Repr, Inhabited

/-- Everything the eight units drive in one cycle, grouped by the unit that drives it (47_top_level.md R341 to R345). -/
structure Outputs where
  mux : MuxOut := {}
  fr : FrOut := {}
  ckTx : CkOut := {}
  ckRx : CkOut := {}
  tx : TxOut := {}
  ex : ExOut := {}
  rx : RxOut := {}
  dmx : DmxOut := {}
  deriving DecidableEq, Repr, Inhabited

/-- Every output 0, for a block of `n` user ports (70_reset_and_hazards.md R402). -/
def Outputs.zero (n : Nat) : Outputs :=
  { mux := { utxReady := List.replicate n false }, dmx := { urx := List.replicate n {} } }

/-- `xfer(P) = P.valid & P.ready` (20_memory.md R66). -/
def xfer (valid ready : Bool) : Bool := valid && ready

end Sys2Proof
end

