-- ==== Sys2Proof/Config.lean ====
section
/-! DEFINITION. The configuration record (00_scope.md R6, 10_state.md R22), its legality, and the model's one free
value: the environment's inputs in a cycle for which the state holds none. -/

namespace Sys2Proof

/-- `DW`, the data bits per beat (R6), fixed at 8. -/
def DW : Nat := 8

/-- `HDR_LEN`, the header length in bytes (R6, R7), fixed at 20. -/
def HDR_LEN : Nat := 20

/-- The configuration record of R6. `proto` is the registry `PROTO[0..NPORTS-1]` in registration order (R300), so
`NPORTS` is its length. No operation of a clock cycle writes any field (R22). -/
structure Config where
  proto : List Byte
  localIp : Ip
  localMac : Mac
  ttlDefault : Byte
  wpc : Nat
  ethertype : Half
  deriving DecidableEq, Repr, Inhabited

/-- `NPORTS`, the number of registered user ports (R6, R300). -/
def Config.nports (c : Config) : Nat := c.proto.length

/-- The legal values of the record (R6, R22, R300, R301): at least one port, pairwise distinct protocol numbers,
`WPC` in 1..10. -/
def Config.legal (c : Config) : Bool :=
  decide (1 ≤ c.nports) && decide c.proto.Nodup && decide (1 ≤ c.wpc) && decide (c.wpc ≤ 10)

/-- The configuration `State.reset` stands in. DESIGN CHOICE (unsafe, log entry 1): the spec leaves `NPORTS`, `PROTO[]`,
`LOCAL_IP`, `LOCAL_MAC`, `TTL_DEFAULT` and `WPC` open (R6). This is the configuration of program P1 of
95_test_vectors.md. Every statement quantifies over the configuration, so none rests on it. -/
def Config.programP1 : Config where
  proto := [17]
  localIp := 0x0A000001
  localMac := 0x020000000001
  ttlDefault := 0x80
  wpc := 1
  ethertype := 0x0800

/-- The environment's inputs in clock cycle `n` when the state holds none: a FREE VALUE (safe, log entry 2). Nothing
constrains it, so what is proved of a cycle holds for every behaviour of the environment. -/
opaque Config.freeInputs : Nat → Inputs

end Sys2Proof
end

