-- ==== Sys2Proof/Syntax.lean ====
section
/-! DEFINITION. The operations of the block, one constructor per row of spec/opcode_table.json, with the guard bits
of the select word that chose the operation (30_encoding.md R106 to R112) where the row leaves some of them open. -/

namespace Sys2Proof

/-! State codes (30_encoding.md R105). -/

abbrev F_IDLE : BitVec 2 := 0b00#2
abbrev F_HEADER : BitVec 2 := 0b01#2
abbrev F_PAYLOAD : BitVec 2 := 0b10#2

abbrev E_IDLE : BitVec 2 := 0b00#2
abbrev E_HEADER : BitVec 2 := 0b01#2
abbrev E_PAYLOAD : BitVec 2 := 0b10#2

abbrev T_IDLE : BitVec 3 := 0b000#3
abbrev T_REQUEST : BitVec 3 := 0b001#3
abbrev T_AWAIT : BitVec 3 := 0b010#3
abbrev T_SEND : BitVec 3 := 0b011#3
abbrev T_DROP : BitVec 3 := 0b100#3

abbrev R_IDLE : BitVec 2 := 0b00#2
abbrev R_CHECK : BitVec 2 := 0b01#2
abbrev R_PRESENT : BitVec 2 := 0b10#2
abbrev R_DROP : BitVec 2 := 0b11#2

/-- The fields of `CKSEL` (R106). -/
structure CkSel where
  reset : Bool
  ce : Bool
  done : Bool
  deriving DecidableEq, Repr, Inhabited

/-- The fields of `FRSEL` (R107). -/
structure FrSel where
  state : BitVec 2
  last : Bool
  moValid : Bool
  moSop : Bool
  moEop : Bool
  frsReady : Bool
  deriving DecidableEq, Repr, Inhabited

/-- The fields of `EXSEL` (R108). -/
structure ExSel where
  state : BitVec 2
  last : Bool
  l2rxValid : Bool
  l2rxSop : Bool
  l2rxEop : Bool
  exsReady : Bool
  deriving DecidableEq, Repr, Inhabited

/-- The fields of `TXSEL` (R109). -/
structure TxSel where
  state : BitVec 3
  frsValid : Bool
  frsSop : Bool
  frsEop : Bool
  ckDone : Bool
  arqReady : Bool
  arsValid : Bool
  arsFailed : Bool
  l2txReady : Bool
  deriving DecidableEq, Repr, Inhabited

/-- The fields of `RXSEL` (R110). -/
structure RxSel where
  state : BitVec 2
  exsValid : Bool
  exsSop : Bool
  exsEop : Bool
  ckDone : Bool
  hdrOk : Bool
  rxoReady : Bool
  deriving DecidableEq, Repr, Inhabited

/-- The fields of `ARBSEL` (R111). -/
structure ArbSel where
  busy : Bool
  anyReq : Bool
  moValid : Bool
  moReady : Bool
  moEop : Bool
  deriving DecidableEq, Repr, Inhabited

/-- The fields of `DMXSEL` (R111). -/
structure DmxSel where
  rxoValid : Bool
  mOk : Bool
  mReady : Bool
  deriving DecidableEq, Repr, Inhabited

/-- The operations of the block, in the order of spec/opcode_table.json. A checksum operation names its engine
instance. An operation whose row fixes every bit of its select word carries no select word. -/
inductive Instr where
  | ckReset (u : CkInst) (g : CkSel)
  | ckAccum (u : CkInst)
  | ckHold (u : CkInst) (g : CkSel)
  | frLoad (g : FrSel)
  | frSkip (g : FrSel)
  | frIdleWait (g : FrSel)
  | frHdrLast (g : FrSel)
  | frHdr (g : FrSel)
  | frHdrStall (g : FrSel)
  | frPayEop (g : FrSel)
  | frPay (g : FrSel)
  | frPayStall (g : FrSel)
  | frIllegal (g : FrSel)
  | exIdleRunt (g : ExSel)
  | exStart (g : ExSel)
  | exSkip (g : ExSel)
  | exIdleWait (g : ExSel)
  | exHdrRunt (g : ExSel)
  | exHdrLast (g : ExSel)
  | exHdr (g : ExSel)
  | exHdrWait (g : ExSel)
  | exPayEop (g : ExSel)
  | exPay (g : ExSel)
  | exPayStall (g : ExSel)
  | exIllegal (g : ExSel)
  | txStart (g : TxSel)
  | txIdleWait (g : TxSel)
  | txReqAccept (g : TxSel)
  | txReqWait (g : TxSel)
  | txUnresolved (g : TxSel)
  | txResolved (g : TxSel)
  | txAwaitWait (g : TxSel)
  | txSendEop (g : TxSel)
  | txSendBeat (g : TxSel)
  | txSendStall (g : TxSel)
  | txDropEop (g : TxSel)
  | txDropBeat (g : TxSel)
  | txDropWait (g : TxSel)
  | txIllegal (g : TxSel)
  | rxStart (g : RxSel)
  | rxIdleWait (g : RxSel)
  | rxAccept (g : RxSel)
  | rxReject (g : RxSel)
  | rxCheckWait (g : RxSel)
  | rxPresentEop (g : RxSel)
  | rxPresentBeat (g : RxSel)
  | rxPresentStall (g : RxSel)
  | rxDropEop (g : RxSel)
  | rxDropBeat (g : RxSel)
  | rxDropWait (g : RxSel)
  | xbArbGrant (g : ArbSel)
  | xbArbIdle (g : ArbSel)
  | xbMuxEop (g : ArbSel)
  | xbMuxBeat (g : ArbSel)
  | xbMuxStall (g : ArbSel)
  | xbDmxDeliver
  | xbDmxStall
  | xbDmxDiscard (g : DmxSel)
  | xbDmxIdle (g : DmxSel)
  | xbRegisterDup
  | xbRegister
  | reset
  | run
  deriving DecidableEq, Repr, Inhabited

/-- The operation's name in spec/opcode_table.json, as a trace lists it (30_encoding.md R123). -/
def Instr.mnemonic : Instr → String
  | .ckReset _ _ => "CK_RESET"
  | .ckAccum _ => "CK_ACCUM"
  | .ckHold _ _ => "CK_HOLD"
  | .frLoad _ => "FR_LOAD"
  | .frSkip _ => "FR_SKIP"
  | .frIdleWait _ => "FR_IDLE_WAIT"
  | .frHdrLast _ => "FR_HDR_LAST"
  | .frHdr _ => "FR_HDR"
  | .frHdrStall _ => "FR_HDR_STALL"
  | .frPayEop _ => "FR_PAY_EOP"
  | .frPay _ => "FR_PAY"
  | .frPayStall _ => "FR_PAY_STALL"
  | .frIllegal _ => "FR_ILLEGAL"
  | .exIdleRunt _ => "EX_IDLE_RUNT"
  | .exStart _ => "EX_START"
  | .exSkip _ => "EX_SKIP"
  | .exIdleWait _ => "EX_IDLE_WAIT"
  | .exHdrRunt _ => "EX_HDR_RUNT"
  | .exHdrLast _ => "EX_HDR_LAST"
  | .exHdr _ => "EX_HDR"
  | .exHdrWait _ => "EX_HDR_WAIT"
  | .exPayEop _ => "EX_PAY_EOP"
  | .exPay _ => "EX_PAY"
  | .exPayStall _ => "EX_PAY_STALL"
  | .exIllegal _ => "EX_ILLEGAL"
  | .txStart _ => "TX_START"
  | .txIdleWait _ => "TX_IDLE_WAIT"
  | .txReqAccept _ => "TX_REQ_ACCEPT"
  | .txReqWait _ => "TX_REQ_WAIT"
  | .txUnresolved _ => "TX_UNRESOLVED"
  | .txResolved _ => "TX_RESOLVED"
  | .txAwaitWait _ => "TX_AWAIT_WAIT"
  | .txSendEop _ => "TX_SEND_EOP"
  | .txSendBeat _ => "TX_SEND_BEAT"
  | .txSendStall _ => "TX_SEND_STALL"
  | .txDropEop _ => "TX_DROP_EOP"
  | .txDropBeat _ => "TX_DROP_BEAT"
  | .txDropWait _ => "TX_DROP_WAIT"
  | .txIllegal _ => "TX_ILLEGAL"
  | .rxStart _ => "RX_START"
  | .rxIdleWait _ => "RX_IDLE_WAIT"
  | .rxAccept _ => "RX_ACCEPT"
  | .rxReject _ => "RX_REJECT"
  | .rxCheckWait _ => "RX_CHECK_WAIT"
  | .rxPresentEop _ => "RX_PRESENT_EOP"
  | .rxPresentBeat _ => "RX_PRESENT_BEAT"
  | .rxPresentStall _ => "RX_PRESENT_STALL"
  | .rxDropEop _ => "RX_DROP_EOP"
  | .rxDropBeat _ => "RX_DROP_BEAT"
  | .rxDropWait _ => "RX_DROP_WAIT"
  | .xbArbGrant _ => "XB_ARB_GRANT"
  | .xbArbIdle _ => "XB_ARB_IDLE"
  | .xbMuxEop _ => "XB_MUX_EOP"
  | .xbMuxBeat _ => "XB_MUX_BEAT"
  | .xbMuxStall _ => "XB_MUX_STALL"
  | .xbDmxDeliver => "XB_DMX_DELIVER"
  | .xbDmxStall => "XB_DMX_STALL"
  | .xbDmxDiscard _ => "XB_DMX_DISCARD"
  | .xbDmxIdle _ => "XB_DMX_IDLE"
  | .xbRegisterDup => "XB_REGISTER_DUP"
  | .xbRegister => "XB_REGISTER"
  | .reset => "RESET"
  | .run => "RUN"

end Sys2Proof
end

