-- ==== Sys2Proof/WellFormed.lean ====
section
/-! DEFINITION. Which select words an operation may carry: the conditions of the **Operands** line of its rule
(files 41 to 46), said of the fields and not of the table's match and mask. -/

namespace Sys2Proof

/-- The select word carried by an operation meets the Operands line of the operation's rule. -/
def Instr.wellFormed : Instr → Bool
  | .ckReset _ g => g.reset
  | .ckAccum _ => true
  | .ckHold _ g => !g.reset && (!g.ce || g.done)
  | .frLoad g => g.state == F_IDLE && g.moValid && g.moSop
  | .frSkip g => g.state == F_IDLE && g.moValid && !g.moSop
  | .frIdleWait g => g.state == F_IDLE && !g.moValid
  | .frHdrLast g => g.state == F_HEADER && g.last && g.frsReady
  | .frHdr g => g.state == F_HEADER && !g.last && g.frsReady
  | .frHdrStall g => g.state == F_HEADER && !g.frsReady
  | .frPayEop g => g.state == F_PAYLOAD && g.moValid && g.moEop && g.frsReady
  | .frPay g => g.state == F_PAYLOAD && g.moValid && !g.moEop && g.frsReady
  | .frPayStall g => g.state == F_PAYLOAD && (!g.moValid || !g.frsReady)
  | .frIllegal g => g.state == 0b11#2
  | .exIdleRunt g => g.state == E_IDLE && g.l2rxValid && g.l2rxSop && g.l2rxEop
  | .exStart g => g.state == E_IDLE && g.l2rxValid && g.l2rxSop && !g.l2rxEop
  | .exSkip g => g.state == E_IDLE && g.l2rxValid && !g.l2rxSop
  | .exIdleWait g => g.state == E_IDLE && !g.l2rxValid
  | .exHdrRunt g => g.state == E_HEADER && g.l2rxValid && g.l2rxEop
  | .exHdrLast g => g.state == E_HEADER && g.last && g.l2rxValid && !g.l2rxEop
  | .exHdr g => g.state == E_HEADER && !g.last && g.l2rxValid && !g.l2rxEop
  | .exHdrWait g => g.state == E_HEADER && !g.l2rxValid
  | .exPayEop g => g.state == E_PAYLOAD && g.l2rxValid && g.l2rxEop && g.exsReady
  | .exPay g => g.state == E_PAYLOAD && g.l2rxValid && !g.l2rxEop && g.exsReady
  | .exPayStall g => g.state == E_PAYLOAD && (!g.l2rxValid || !g.exsReady)
  | .exIllegal g => g.state == 0b11#2
  | .txStart g => g.state == T_IDLE && g.frsValid && g.frsSop && g.ckDone
  | .txIdleWait g => g.state == T_IDLE && (!g.frsValid || !g.frsSop || !g.ckDone)
  | .txReqAccept g => g.state == T_REQUEST && g.arqReady
  | .txReqWait g => g.state == T_REQUEST && !g.arqReady
  | .txUnresolved g => g.state == T_AWAIT && g.arsValid && g.arsFailed
  | .txResolved g => g.state == T_AWAIT && g.arsValid && !g.arsFailed
  | .txAwaitWait g => g.state == T_AWAIT && !g.arsValid
  | .txSendEop g => g.state == T_SEND && g.frsValid && g.frsEop && g.l2txReady
  | .txSendBeat g => g.state == T_SEND && g.frsValid && !g.frsEop && g.l2txReady
  | .txSendStall g => g.state == T_SEND && (!g.frsValid || !g.l2txReady)
  | .txDropEop g => g.state == T_DROP && g.frsValid && g.frsEop
  | .txDropBeat g => g.state == T_DROP && g.frsValid && !g.frsEop
  | .txDropWait g => g.state == T_DROP && !g.frsValid
  | .txIllegal g => g.state == 0b101#3 || g.state == 0b110#3 || g.state == 0b111#3
  | .rxStart g => g.state == R_IDLE && g.exsValid && g.exsSop
  | .rxIdleWait g => g.state == R_IDLE && (!g.exsValid || !g.exsSop)
  | .rxAccept g => g.state == R_CHECK && g.ckDone && g.hdrOk
  | .rxReject g => g.state == R_CHECK && g.ckDone && !g.hdrOk
  | .rxCheckWait g => g.state == R_CHECK && !g.ckDone
  | .rxPresentEop g => g.state == R_PRESENT && g.exsValid && g.exsEop && g.rxoReady
  | .rxPresentBeat g => g.state == R_PRESENT && g.exsValid && !g.exsEop && g.rxoReady
  | .rxPresentStall g => g.state == R_PRESENT && (!g.exsValid || !g.rxoReady)
  | .rxDropEop g => g.state == R_DROP && g.exsValid && g.exsEop
  | .rxDropBeat g => g.state == R_DROP && g.exsValid && !g.exsEop
  | .rxDropWait g => g.state == R_DROP && !g.exsValid
  | .xbArbGrant g => !g.busy && g.anyReq
  | .xbArbIdle g => !g.busy && !g.anyReq
  | .xbMuxEop g => g.busy && g.moValid && g.moReady && g.moEop
  | .xbMuxBeat g => g.busy && g.moValid && g.moReady && !g.moEop
  | .xbMuxStall g => g.busy && (!g.moValid || !g.moReady)
  | .xbDmxDeliver => true
  | .xbDmxStall => true
  | .xbDmxDiscard g => g.rxoValid && !g.mOk
  | .xbDmxIdle g => !g.rxoValid
  | .xbRegisterDup => true
  | .xbRegister => true
  | .reset => true
  | .run => true

end Sys2Proof
end

