-- ==== Sys2Proof/Decode.lean ====
section
/-! DEFINITION. The select words as bits (30_encoding.md R106 to R112), the decoder over the row tables (R113 to R120),
and after it the encoder. -/

namespace Sys2Proof

/-! Packing a select word from its fields and reading the fields back, one pair per table (R106 to R111). -/

/-- `CKSEL[2:0] = {reset, ce, done}` (R106). -/
def CkSel.pack (g : CkSel) : BitVec 3 :=
  BitVec.ofBool g.reset ++ BitVec.ofBool g.ce ++ BitVec.ofBool g.done

/-- The fields of a `CKSEL` word (R106). -/
def CkSel.unpack (w : BitVec 3) : CkSel := ⟨w.getLsbD 2, w.getLsbD 1, w.getLsbD 0⟩

/-- `FRSEL[6:0] = {fr_state[1:0], last, MO.valid, MO.sop, MO.eop, FRS.ready}` (R107). -/
def FrSel.pack (g : FrSel) : BitVec 7 :=
  g.state ++ BitVec.ofBool g.last ++ BitVec.ofBool g.moValid ++ BitVec.ofBool g.moSop ++ BitVec.ofBool g.moEop
    ++ BitVec.ofBool g.frsReady

/-- The fields of an `FRSEL` word (R107). -/
def FrSel.unpack (w : BitVec 7) : FrSel :=
  ⟨w.extractLsb' 5 2, w.getLsbD 4, w.getLsbD 3, w.getLsbD 2, w.getLsbD 1, w.getLsbD 0⟩

/-- `EXSEL[6:0] = {ex_state[1:0], last, L2RX.valid, L2RX.sop, L2RX.eop, EXS.ready}` (R108). -/
def ExSel.pack (g : ExSel) : BitVec 7 :=
  g.state ++ BitVec.ofBool g.last ++ BitVec.ofBool g.l2rxValid ++ BitVec.ofBool g.l2rxSop
    ++ BitVec.ofBool g.l2rxEop ++ BitVec.ofBool g.exsReady

/-- The fields of an `EXSEL` word (R108). -/
def ExSel.unpack (w : BitVec 7) : ExSel :=
  ⟨w.extractLsb' 5 2, w.getLsbD 4, w.getLsbD 3, w.getLsbD 2, w.getLsbD 1, w.getLsbD 0⟩

/-- `TXSEL[10:0] = {tx_state[2:0], FRS.valid, FRS.sop, FRS.eop, CK_TX.done, ARQ.ready, ARS.valid, ARS.failed,
L2TX.ready}` (R109). -/
def TxSel.pack (g : TxSel) : BitVec 11 :=
  g.state ++ BitVec.ofBool g.frsValid ++ BitVec.ofBool g.frsSop ++ BitVec.ofBool g.frsEop
    ++ BitVec.ofBool g.ckDone ++ BitVec.ofBool g.arqReady ++ BitVec.ofBool g.arsValid
    ++ BitVec.ofBool g.arsFailed ++ BitVec.ofBool g.l2txReady

/-- The fields of a `TXSEL` word (R109). -/
def TxSel.unpack (w : BitVec 11) : TxSel :=
  ⟨w.extractLsb' 8 3, w.getLsbD 7, w.getLsbD 6, w.getLsbD 5, w.getLsbD 4, w.getLsbD 3, w.getLsbD 2, w.getLsbD 1,
   w.getLsbD 0⟩

/-- `RXSEL[7:0] = {rx_state[1:0], EXS.valid, EXS.sop, EXS.eop, CK_RX.done, hdr_ok, RXO.ready}` (R110). -/
def RxSel.pack (g : RxSel) : BitVec 8 :=
  g.state ++ BitVec.ofBool g.exsValid ++ BitVec.ofBool g.exsSop ++ BitVec.ofBool g.exsEop
    ++ BitVec.ofBool g.ckDone ++ BitVec.ofBool g.hdrOk ++ BitVec.ofBool g.rxoReady

/-- The fields of an `RXSEL` word (R110). -/
def RxSel.unpack (w : BitVec 8) : RxSel :=
  ⟨w.extractLsb' 6 2, w.getLsbD 5, w.getLsbD 4, w.getLsbD 3, w.getLsbD 2, w.getLsbD 1, w.getLsbD 0⟩

/-- `ARBSEL[4:0] = {arb_busy, any_req, MO.valid, MO.ready, MO.eop}` (R111). -/
def ArbSel.pack (g : ArbSel) : BitVec 5 :=
  BitVec.ofBool g.busy ++ BitVec.ofBool g.anyReq ++ BitVec.ofBool g.moValid ++ BitVec.ofBool g.moReady
    ++ BitVec.ofBool g.moEop

/-- The fields of an `ARBSEL` word (R111). -/
def ArbSel.unpack (w : BitVec 5) : ArbSel :=
  ⟨w.getLsbD 4, w.getLsbD 3, w.getLsbD 2, w.getLsbD 1, w.getLsbD 0⟩

/-- `DMXSEL[2:0] = {RXO.valid, m_ok, m_ready}` (R111). -/
def DmxSel.pack (g : DmxSel) : BitVec 3 :=
  BitVec.ofBool g.rxoValid ++ BitVec.ofBool g.mOk ++ BitVec.ofBool g.mReady

/-- The fields of a `DMXSEL` word (R111). -/
def DmxSel.unpack (w : BitVec 3) : DmxSel := ⟨w.getLsbD 2, w.getLsbD 1, w.getLsbD 0⟩

/-- A select word with the table it belongs to. The two checksum engines share one table (R114); `TOPSEL` and `CFGSEL`
have one bit (R112). -/
inductive SelWord where
  | ck (u : CkInst) (w : BitVec 3)
  | fr (w : BitVec 7)
  | ex (w : BitVec 7)
  | tx (w : BitVec 11)
  | rx (w : BitVec 8)
  | arb (w : BitVec 5)
  | dmx (w : BitVec 3)
  | cfg (w : BitVec 1)
  | top (w : BitVec 1)
  deriving DecidableEq, Repr

/-- One row of a table: its match, its mask, and the operation it selects. -/
structure Row (n : Nat) (α : Type) where
  pat : BitVec n
  mask : BitVec n
  op : α → Instr

/-- A row matches a word when `(SEL & mask) == match` (R113). -/
def Row.hits {n : Nat} {α : Type} (r : Row n α) (w : BitVec n) : Bool := (w &&& r.mask) == r.pat

/-- The rows of R114 for unit CK, in their order. -/
def ckRows (u : CkInst) : List (Row 3 CkSel) :=
  [⟨0x4#3, 0x4#3, .ckReset u⟩,
   ⟨0x2#3, 0x7#3, fun _ => .ckAccum u⟩,
   ⟨0x0#3, 0x0#3, .ckHold u⟩]

/-- The rows of R115 for unit FR, in their order. -/
def frRows : List (Row 7 FrSel) :=
  [⟨0xC#7, 0x6C#7, .frLoad⟩,
   ⟨0x8#7, 0x6C#7, .frSkip⟩,
   ⟨0x0#7, 0x60#7, .frIdleWait⟩,
   ⟨0x31#7, 0x71#7, .frHdrLast⟩,
   ⟨0x21#7, 0x71#7, .frHdr⟩,
   ⟨0x20#7, 0x60#7, .frHdrStall⟩,
   ⟨0x4B#7, 0x6B#7, .frPayEop⟩,
   ⟨0x49#7, 0x6B#7, .frPay⟩,
   ⟨0x40#7, 0x60#7, .frPayStall⟩,
   ⟨0x60#7, 0x60#7, .frIllegal⟩]

/-- The rows of R116 for unit EX, in their order. -/
def exRows : List (Row 7 ExSel) :=
  [⟨0xE#7, 0x6E#7, .exIdleRunt⟩,
   ⟨0xC#7, 0x6E#7, .exStart⟩,
   ⟨0x8#7, 0x6C#7, .exSkip⟩,
   ⟨0x0#7, 0x60#7, .exIdleWait⟩,
   ⟨0x2A#7, 0x6A#7, .exHdrRunt⟩,
   ⟨0x38#7, 0x7A#7, .exHdrLast⟩,
   ⟨0x28#7, 0x7A#7, .exHdr⟩,
   ⟨0x20#7, 0x60#7, .exHdrWait⟩,
   ⟨0x4B#7, 0x6B#7, .exPayEop⟩,
   ⟨0x49#7, 0x6B#7, .exPay⟩,
   ⟨0x40#7, 0x60#7, .exPayStall⟩,
   ⟨0x60#7, 0x60#7, .exIllegal⟩]

/-- The rows of R117 for unit TXP, in their order. -/
def txRows : List (Row 11 TxSel) :=
  [⟨0xD0#11, 0x7D0#11, .txStart⟩,
   ⟨0x0#11, 0x700#11, .txIdleWait⟩,
   ⟨0x108#11, 0x708#11, .txReqAccept⟩,
   ⟨0x100#11, 0x700#11, .txReqWait⟩,
   ⟨0x206#11, 0x706#11, .txUnresolved⟩,
   ⟨0x204#11, 0x706#11, .txResolved⟩,
   ⟨0x200#11, 0x700#11, .txAwaitWait⟩,
   ⟨0x3A1#11, 0x7A1#11, .txSendEop⟩,
   ⟨0x381#11, 0x7A1#11, .txSendBeat⟩,
   ⟨0x300#11, 0x700#11, .txSendStall⟩,
   ⟨0x4A0#11, 0x7A0#11, .txDropEop⟩,
   ⟨0x480#11, 0x7A0#11, .txDropBeat⟩,
   ⟨0x400#11, 0x700#11, .txDropWait⟩,
   ⟨0x400#11, 0x400#11, .txIllegal⟩]

/-- The rows of R118 for unit RXP, in their order. -/
def rxRows : List (Row 8 RxSel) :=
  [⟨0x30#8, 0xF0#8, .rxStart⟩,
   ⟨0x0#8, 0xC0#8, .rxIdleWait⟩,
   ⟨0x46#8, 0xC6#8, .rxAccept⟩,
   ⟨0x44#8, 0xC6#8, .rxReject⟩,
   ⟨0x40#8, 0xC0#8, .rxCheckWait⟩,
   ⟨0xA9#8, 0xE9#8, .rxPresentEop⟩,
   ⟨0xA1#8, 0xE9#8, .rxPresentBeat⟩,
   ⟨0x80#8, 0xC0#8, .rxPresentStall⟩,
   ⟨0xE8#8, 0xE8#8, .rxDropEop⟩,
   ⟨0xE0#8, 0xE8#8, .rxDropBeat⟩,
   ⟨0xC0#8, 0xC0#8, .rxDropWait⟩]

/-- The rows of R119 for unit MUX, in their order. -/
def arbRows : List (Row 5 ArbSel) :=
  [⟨0x8#5, 0x18#5, .xbArbGrant⟩,
   ⟨0x0#5, 0x10#5, .xbArbIdle⟩,
   ⟨0x17#5, 0x17#5, .xbMuxEop⟩,
   ⟨0x16#5, 0x17#5, .xbMuxBeat⟩,
   ⟨0x10#5, 0x10#5, .xbMuxStall⟩]

/-- The rows of R119 for unit DMX, in their order. -/
def dmxRows : List (Row 3 DmxSel) :=
  [⟨0x7#3, 0x7#3, fun _ => .xbDmxDeliver⟩,
   ⟨0x6#3, 0x7#3, fun _ => .xbDmxStall⟩,
   ⟨0x4#3, 0x6#3, .xbDmxDiscard⟩,
   ⟨0x0#3, 0x4#3, .xbDmxIdle⟩]

/-- The rows of R120 for unit CFG, in their order. -/
def cfgRows : List (Row 1 Unit) :=
  [⟨0x1#1, 0x1#1, fun _ => .xbRegisterDup⟩,
   ⟨0x0#1, 0x1#1, fun _ => .xbRegister⟩]

/-- The rows of R120 for unit TOP, in their order. -/
def topRows : List (Row 1 Unit) :=
  [⟨0x1#1, 0x1#1, fun _ => .reset⟩,
   ⟨0x0#1, 0x1#1, fun _ => .run⟩]
/-- Why a word is rejected. -/
inductive Reject where
  /-- No row of the table matches (it never happens, R113; safe). -/
  | noRow
  /-- Bits above the select word's width are set: no select word has them (safe). -/
  | bitsAboveWidth
  /-- The byte string is not as long as the select word in whole bytes (safe). -/
  | wrongLength
  deriving DecidableEq, Repr

/-- The first row that matches selects the operation (R113). -/
def firstRow {n : Nat} {α : Type} : List (Row n α) → BitVec n → α → Except Reject Instr
  | [], _, _ => .error .noRow
  | r :: rs, w, g => if r.hits w then .ok (r.op g) else firstRow rs w g

/-- The decoder: the operation a select word chooses in its unit's table (R113 to R120). -/
def decode : SelWord → Except Reject Instr
  | .ck u w => firstRow (ckRows u) w (CkSel.unpack w)
  | .fr w => firstRow frRows w (FrSel.unpack w)
  | .ex w => firstRow exRows w (ExSel.unpack w)
  | .tx w => firstRow txRows w (TxSel.unpack w)
  | .rx w => firstRow rxRows w (RxSel.unpack w)
  | .arb w => firstRow arbRows w (ArbSel.unpack w)
  | .dmx w => firstRow dmxRows w (DmxSel.unpack w)
  | .cfg w => firstRow cfgRows w ()
  | .top w => firstRow topRows w ()

/-! A select word as a number or as bytes. -/

/-- The tables of select words. -/
inductive Table where
  | ck (u : CkInst)
  | fr
  | ex
  | tx
  | rx
  | arb
  | dmx
  | cfg
  | top
  deriving DecidableEq, Repr

/-- The width of a table's select word (R106 to R112). -/
def Table.width : Table → Nat
  | .ck _ => 3
  | .fr => 7
  | .ex => 7
  | .tx => 11
  | .rx => 8
  | .arb => 5
  | .dmx => 3
  | .cfg => 1
  | .top => 1

/-- The select word's length in whole bytes. -/
def Table.bytes (t : Table) : Nat := (t.width + 7) / 8

/-- The select word of a table with the value `n`, rejected by name when `n` has bits above the table's width. -/
def SelWord.ofNat (t : Table) (n : Nat) : Except Reject SelWord :=
  if n < 2 ^ t.width then
    .ok (match t with
      | .ck u => .ck u (BitVec.ofNat 3 n)
      | .fr => .fr (BitVec.ofNat 7 n)
      | .ex => .ex (BitVec.ofNat 7 n)
      | .tx => .tx (BitVec.ofNat 11 n)
      | .rx => .rx (BitVec.ofNat 8 n)
      | .arb => .arb (BitVec.ofNat 5 n)
      | .dmx => .dmx (BitVec.ofNat 3 n)
      | .cfg => .cfg (BitVec.ofNat 1 n)
      | .top => .top (BitVec.ofNat 1 n))
  else .error .bitsAboveWidth

/-- The number in a byte string whose first byte is the least significant one. -/
def littleEndian : List Byte → Nat
  | [] => 0
  | b :: bs => b.toNat + 256 * littleEndian bs

/-- Decoding any byte string as a select word of a table. The block stores no select word; the byte form is only how
the opcode table's numbers are handed over (log entry 10). -/
def decodeBytes (t : Table) (bs : List Byte) : Except Reject Instr :=
  if bs.length = t.bytes then (SelWord.ofNat t (littleEndian bs)).bind decode else .error .wrongLength

/-! The bare words of spec/opcode_table.json. -/

/-- Whether `n` is the match value of a row of table `t`. -/
def Table.hasMatch (t : Table) (n : Nat) : Bool :=
  match t with
  | .ck u => (ckRows u).any (fun r => r.pat.toNat == n)
  | .fr => frRows.any (fun r => r.pat.toNat == n)
  | .ex => exRows.any (fun r => r.pat.toNat == n)
  | .tx => txRows.any (fun r => r.pat.toNat == n)
  | .rx => rxRows.any (fun r => r.pat.toNat == n)
  | .arb => arbRows.any (fun r => r.pat.toNat == n)
  | .dmx => dmxRows.any (fun r => r.pat.toNat == n)
  | .cfg => cfgRows.any (fun r => r.pat.toNat == n)
  | .top => topRows.any (fun r => r.pat.toNat == n)

/-- The table a bare word of `nbits` bits is read in. DESIGN CHOICE (safe, log entry 10): nine tables share the small
numbers and a bare word does not name its table. A word of more than one byte is a `TXSEL` word, the only wide one. A
one-byte word is read in the first of the tables below that has a row whose match value it is; else as an `FRSEL` word
where it has at most seven bits; else as an `RXSEL` word. -/
def tableOfBareWord (nbits w : Nat) : Table :=
  if 8 < nbits then .tx
  else
    match [Table.top, .ck .rx, .dmx, .arb, .fr, .ex, .rx].find? (fun t => t.hasMatch w) with
    | some t => t
    | none => if w < 128 then .fr else .rx

/-- The bare word as bytes, least significant byte first. -/
def bytesOfWord : Nat → Nat → List Byte
  | 0, _ => []
  | k + 1, w => BitVec.ofNat 8 w :: bytesOfWord k (w / 256)

/-- The select word that stands for a bare word of the opcode table. -/
def selOfBareWord (nbits w : Nat) : Except Reject SelWord := SelWord.ofNat (tableOfBareWord nbits w) w

/-- The operation the decoder reads from a bare word of `nbits` bits (in whole bytes), laid out least significant byte
first. Bits past the word's bytes are rejected. -/
def decodeTableWord (nbits w : Nat) : Option Instr :=
  let t := tableOfBareWord nbits w
  if w < 256 ^ t.bytes then
    match decodeBytes t (bytesOfWord t.bytes w) with
    | .ok i => some i
    | .error _ => none
  else none

/-! The encoder. -/

/-- The select word of an operation: its fields packed in its unit's table, or the row's match value where the row
fixes every bit (R106 to R112, R114 to R120). -/
def encode : Instr → SelWord
  | .ckReset u g => .ck u g.pack
  | .ckAccum u => .ck u 0b010#3
  | .ckHold u g => .ck u g.pack
  | .frLoad g => .fr g.pack
  | .frSkip g => .fr g.pack
  | .frIdleWait g => .fr g.pack
  | .frHdrLast g => .fr g.pack
  | .frHdr g => .fr g.pack
  | .frHdrStall g => .fr g.pack
  | .frPayEop g => .fr g.pack
  | .frPay g => .fr g.pack
  | .frPayStall g => .fr g.pack
  | .frIllegal g => .fr g.pack
  | .exIdleRunt g => .ex g.pack
  | .exStart g => .ex g.pack
  | .exSkip g => .ex g.pack
  | .exIdleWait g => .ex g.pack
  | .exHdrRunt g => .ex g.pack
  | .exHdrLast g => .ex g.pack
  | .exHdr g => .ex g.pack
  | .exHdrWait g => .ex g.pack
  | .exPayEop g => .ex g.pack
  | .exPay g => .ex g.pack
  | .exPayStall g => .ex g.pack
  | .exIllegal g => .ex g.pack
  | .txStart g => .tx g.pack
  | .txIdleWait g => .tx g.pack
  | .txReqAccept g => .tx g.pack
  | .txReqWait g => .tx g.pack
  | .txUnresolved g => .tx g.pack
  | .txResolved g => .tx g.pack
  | .txAwaitWait g => .tx g.pack
  | .txSendEop g => .tx g.pack
  | .txSendBeat g => .tx g.pack
  | .txSendStall g => .tx g.pack
  | .txDropEop g => .tx g.pack
  | .txDropBeat g => .tx g.pack
  | .txDropWait g => .tx g.pack
  | .txIllegal g => .tx g.pack
  | .rxStart g => .rx g.pack
  | .rxIdleWait g => .rx g.pack
  | .rxAccept g => .rx g.pack
  | .rxReject g => .rx g.pack
  | .rxCheckWait g => .rx g.pack
  | .rxPresentEop g => .rx g.pack
  | .rxPresentBeat g => .rx g.pack
  | .rxPresentStall g => .rx g.pack
  | .rxDropEop g => .rx g.pack
  | .rxDropBeat g => .rx g.pack
  | .rxDropWait g => .rx g.pack
  | .xbArbGrant g => .arb g.pack
  | .xbArbIdle g => .arb g.pack
  | .xbMuxEop g => .arb g.pack
  | .xbMuxBeat g => .arb g.pack
  | .xbMuxStall g => .arb g.pack
  | .xbDmxDeliver => .dmx 0b111#3
  | .xbDmxStall => .dmx 0b110#3
  | .xbDmxDiscard g => .dmx g.pack
  | .xbDmxIdle g => .dmx g.pack
  | .xbRegisterDup => .cfg 1#1
  | .xbRegister => .cfg 0#1
  | .reset => .top 1#1
  | .run => .top 0#1

end Sys2Proof
end

