-- ==== Sys2Proof/Machine/State.lean ====
section
/-! DEFINITION. The state of the block (10_state.md R20 to R43) as plain data, the drop and fault records (60_exceptions.md
R370, R380), the machine's stops, and the state after reset. -/

namespace Sys2Proof.Machine

/-- The registers of one checksum engine instance (R23, R24). -/
structure CkRegs where
  acc : Half
  cnt : BitVec 4
  deriving DecidableEq, Repr, Inhabited

/-- The framer's registers (R25 to R27). -/
structure FrRegs where
  state : BitVec 2
  idx : BitVec 5
  h : Header
  deriving DecidableEq, Repr

/-- The extractor's registers (R28 to R31). -/
structure ExRegs where
  state : BitVec 2
  cnt : BitVec 5
  first : Bool
  g : Header
  deriving DecidableEq, Repr

/-- The transmit pipeline's registers (R32 to R34). -/
structure TxRegs where
  state : BitVec 3
  reqIp : Ip
  mac : Mac
  deriving DecidableEq, Repr, Inhabited

/-- The receive pipeline's register (R35). -/
structure RxRegs where
  state : BitVec 2
  deriving DecidableEq, Repr, Inhabited

/-- The grant register `arb_grant` (R36): an unsigned index held in `width` bits. `width` is no state of the block: it is the
width R36 gives a register of this configuration, `grantWidth` (Sys2Proof/Machine/Ops.lean; log entry 5). -/
structure GrantReg where
  width : Nat
  bits : BitVec width
  deriving DecidableEq, Repr, Inhabited

/-- The multiplexer's registers (R36, R37). -/
structure ArbRegs where
  grant : GrantReg
  busy : Bool
  deriving DecidableEq, Repr, Inhabited

/-- Who records an event: the eight units (R385) and, as the model's choice, `CFG` for the registration steps (46_crossbar.md R300; log
entry 20). -/
inductive UnitName where
  | CK_TX
  | CK_RX
  | FR
  | EX
  | TXP
  | RXP
  | MUX
  | DMX
  | CFG
  deriving DecidableEq, Repr, Inhabited

/-- The causes of 60_exceptions.md R370. -/
inductive Cause where
  | malformedHeader
  | checksumMismatch
  | notAddressedHere
  | addressUnresolved
  | unregisteredProtocol
  | duplicateRegistration
  | runtFrame
  | strayBeat
  | illegalState
  deriving DecidableEq, Repr, Inhabited

/-- The record of a drop or a fault: its cause, the unit that raised it, the cycle (R380). R380 gives this form for drops; faults are
recorded in it too (log entry 20). -/
structure Event where
  cause : Cause
  unit : UnitName
  cycle : Nat
  deriving DecidableEq, Repr, Inhabited

/-- Why the machine stops. Both are raised by `step` before any operation runs, never by an operation. -/
inductive Fault where
  /-- Raised by `step` on a configuration that a duplicate registration refused: "the engine must not start traffic
  processing in that state", and a refused configuration has no cycles (R376, R384). Safe. -/
  | configurationRefused
  /-- Raised by `step` on a configuration that is not well formed: no user port, a repeated protocol number, or `WPC`
  outside 1..10 (R6, R22, R300); the spec gives such a configuration no meaning (R14). Safe. -/
  | illegalConfiguration
  deriving DecidableEq, Repr

/-- What the model has no meaning for. -/
inductive Refusal where
  /-- Raised by `exec` for an operation that has no meaning in this model. No arm raises it. Safe. -/
  | notModelled (mnemonic : String)
  deriving DecidableEq, Repr

/-- The machine. The fields from `cfg` to `arb` are the block's (INVENTORY.md, State); the fields from `inputs` on are
the model's own: the environment's inputs, what the pins showed, and the labels a model may keep (R352, R380). -/
structure State where
  /-- The configuration record (R22). -/
  cfg : Config
  /-- The protocol numbers still to be registered, in order (R300, R411). -/
  pending : List Byte
  /-- A duplicate registration refused the configuration (R302, R376). -/
  refused : Bool
  ckTx : CkRegs
  ckRx : CkRegs
  fr : FrRegs
  ex : ExRegs
  tx : TxRegs
  rx : RxRegs
  arb : ArbRegs
  /-- The inputs of the coming cycles, oldest first (log entry 2). -/
  inputs : List Inputs
  /-- The inputs of the last cycle performed (log entry 6). -/
  seen : Inputs
  /-- What the units drove in the last cycle performed (log entry 6). -/
  out : Outputs
  /-- The events of the last step performed, to be read as a set (R379; log entry 6). -/
  events : List Event
  /-- The number of the next cycle (log entry 6). -/
  cycle : Nat
  deriving DecidableEq, Repr

/-- The machine right after a reset cycle (R43, R401, R402). The registers hold the values of R43. The configuration
has no reset value: `Config.programP1` is a DESIGN CHOICE (log entry 1); for its one port `arb_grant` is `NPORTS-1 = 0` in
max(1, ceil(log2 1)) = 1 bit. `seen`, `inputs` and `cycle` are the model's own
(log entries 2 and 6): the reset cycle was cycle 0, as in 95_test_vectors.md. -/
def State.reset : State where
  cfg := Config.programP1
  pending := []
  refused := false
  ckTx := { acc := 0x0000, cnt := 0 }
  ckRx := { acc := 0x0000, cnt := 0 }
  fr := { state := F_IDLE, idx := 0, h := Header.zero }
  ex := { state := E_IDLE, cnt := 0, first := false, g := Header.zero }
  tx := { state := T_IDLE, reqIp := 0x00000000, mac := 0x000000000000 }
  rx := { state := R_IDLE }
  arb := { grant := { width := 1, bits := 0#1 }, busy := false }
  inputs := []
  seen := { rst := true }
  out := Outputs.zero Config.programP1.nports
  events := []
  cycle := 1

end Sys2Proof.Machine
end

