-- ==== Sys2Proof/Machine/Ops.lean ====
section
/-! DEFINITION. The named operations on header registers, the checksum arithmetic, the inputs of the cycle, raising an
event and returning from a drop, and the reset of every register. -/

namespace Sys2Proof.Machine

/-! Header access, big-endian (00_scope.md R12, 20_memory.md R63). -/

/-- `HdrRead(X, i, 1) = X[i]`. -/
def byteAt (X : Header) (i : Nat) (h : i < 20 := by decide) : Byte := X[i]

/-- `HdrRead(X, i, 2) = BE16(X, i) = {X[i], X[i+1]}`. -/
def be16 (X : Header) (i : Nat) (h : i + 1 < 20 := by decide) : Half := X[i] ++ X[i + 1]

/-- `HdrRead(X, i, 4) = BE32(X, i) = {X[i], X[i+1], X[i+2], X[i+3]}`. -/
def be32 (X : Header) (i : Nat) (h : i + 3 < 20 := by decide) : Ip := X[i] ++ X[i + 1] ++ X[i + 2] ++ X[i + 3]

/-- `HdrWrite(X, i, 1, v)`. -/
def putByte (X : Header) (i : Nat) (v : Byte) (h : i < 20 := by decide) : Header := X.set i v

/-- `HdrWrite(X, i, 2, v)`: `X[i] <- v[15:8], X[i+1] <- v[7:0]`. -/
def put16 (X : Header) (i : Nat) (v : Half) (h : i + 1 < 20 := by decide) : Header :=
  (X.set i (v.extractLsb' 8 8)).set (i + 1) (v.extractLsb' 0 8)

/-- `HdrWrite(X, i, 4, v)`: bytes `v[31:24]` to `v[7:0]` at offsets `i` to `i+3`. -/
def put32 (X : Header) (i : Nat) (v : Ip) (h : i + 3 < 20 := by decide) : Header :=
  (((X.set i (v.extractLsb' 24 8)).set (i + 1) (v.extractLsb' 16 8)).set (i + 2) (v.extractLsb' 8 8)).set (i + 3)
    (v.extractLsb' 0 8)

/-- The header word `W_j(X) = BE16(X, 2j)` (R12, 30_encoding.md R92). -/
def headerWord (X : Header) (j : Fin 10) : Half := be16 X (2 * j.val) (by omega)

/-! Checksum arithmetic (41_checksum.md R130 to R133). -/

/-- `FOLDADD(a, b)`: the 17-bit sum with its carry folded back into the low 16 bits (R130). -/
def foldAdd (a b : Half) : Half :=
  let s : BitVec 17 := a.zeroExtend 17 + b.zeroExtend 17
  s.extractLsb' 0 16 + (s.extractLsb' 16 1).zeroExtend 16

/-- `FOLDADD` over a list of words from a running value, in list order (R131, R137). -/
def foldFrom (a : Half) (ws : List Half) : Half := ws.foldl foldAdd a

/-- `FOLDSUM(w_1, ..., w_n)` (R131). -/
def foldSum (ws : List Half) : Half := foldFrom 0x0000 ws

/-- The word list `L(SKIP)` of an instance: `CK_TX` leaves out word 5 (R132, R139, R140). -/
def wordList : CkInst → List (Fin 10)
  | .tx => [0, 1, 2, 3, 4, 6, 7, 8, 9]
  | .rx => [0, 1, 2, 3, 4, 5, 6, 7, 8, 9]

/-- `CKSUM(X, SKIP) = ~FOLDSUM(W_j(X) for j in L(SKIP))` (R131). -/
def cksum (X : Header) (u : CkInst) : Half := ~~~ foldSum ((wordList u).map (headerWord X))

/-- `CK.N = ceil(|L| / WPC)`, the number of batches of an instance (R133). -/
def numBatches (c : Config) (u : CkInst) : Nat := ((wordList u).length + c.wpc - 1) / c.wpc

/-- The batch `B_k = L[k*WPC .. min((k+1)*WPC, |L|) - 1]` (R133). -/
def batch (c : Config) (u : CkInst) (k : Nat) : List (Fin 10) := ((wordList u).drop (k * c.wpc)).take c.wpc

/-! The registers of an instance by name. -/

/-- The registers of a checksum engine instance. -/
def State.ck (s : State) : CkInst → CkRegs
  | .tx => s.ckTx
  | .rx => s.ckRx

/-- The header register an instance reads: `H` for `CK_TX`, `G` for `CK_RX` (R139, R140). -/
def State.ckHeader (s : State) : CkInst → Header
  | .tx => s.fr.h
  | .rx => s.ex.g

/-! The inputs of the cycle (47_top_level.md R340, R350). -/

/-- The inputs of this cycle: the oldest the state holds, or a free value where it holds none (log entry 2). -/
def State.curIn (s : State) : Inputs :=
  match s.inputs with
  | i :: _ => i
  | [] => Config.freeInputs s.cycle

/-- A beat as a unit of the block sees it: with `valid = 0` it carries no data, whatever its other signals hold (20_memory.md R66), and
every other signal is 0 (47_top_level.md R349; log entry 8). -/
def presented (b : SubBeat) : SubBeat := if b.valid then b else {}

/-- What user port `k` presents on `UTX[k]`; no port past `NPORTS-1` exists (30_encoding.md R98). An `arb_grant` at or above `NPORTS`, which
its width can hold and 10_state.md R36 rules out, so names a port that presents no beat: DESIGN CHOICE (log entry 19). -/
def State.utxAt (s : State) (k : Nat) : SubBeat :=
  if k < s.cfg.nports then presented (s.curIn.utx.getD k {}) else {}

/-- `URX[k].ready` (30_encoding.md R99). -/
def State.urxReadyAt (s : State) (k : Nat) : Bool :=
  if k < s.cfg.nports then s.curIn.urxReady.getD k false else false

/-! The grant register (10_state.md R36). -/

/-- `ceil(log2 n)`, the least `k` with `n <= 2^k`. -/
def ceilLog2 (n : Nat) : Nat := if n ≤ 1 then 0 else (n - 1).log2 + 1

/-- The width of `arb_grant`: `max(1, ceil(log2(NPORTS)))` bits (R36). -/
def grantWidth (c : Config) : Nat := max 1 (ceilLog2 c.nports)

/-- The user port a grant register names: its bits as an unsigned index (R36). -/
def GrantReg.index (g : GrantReg) : Nat := g.bits.toNat

/-- A grant register of `w` bits that holds the low `w` bits of a number. -/
def GrantReg.ofWidth (w k : Nat) : GrantReg := { width := w, bits := BitVec.ofNat w k }

/-- The grant register of a configuration, naming user port `k` (R36). -/
def GrantReg.ofPort (c : Config) (k : Nat) : GrantReg := .ofWidth (grantWidth c) k

/-! Raising an event and returning from a drop (60_exceptions.md R370, R380, R381). -/

/-- The code of a cause (R370). -/
def Cause.code : Cause → Nat
  | .malformedHeader => 1
  | .checksumMismatch => 2
  | .notAddressedHere => 3
  | .addressUnresolved => 4
  | .unregisteredProtocol => 5
  | .duplicateRegistration => 6
  | .runtFrame => 7
  | .strayBeat => 8
  | .illegalState => 9

/-- Raising an event: the record `(cause, unit, cycle)` is added (R380). A drop "saves no state, changes no mask, and
goes to no vector"; the register writes that come with it (`R_DROP`, `T_DROP`, and a runt's: log entry 18) are the raising operation's own. -/
def State.raise (s : State) (c : Cause) (u : UnitName) : State :=
  { s with events := s.events ++ [{ cause := c, unit := u, cycle := s.cycle }] }

/-- Return from a receive drop: `rx_state <- R_IDLE` when the eop beat is consumed (R381, 45_rx_pipeline.md R271). -/
def RxRegs.leaveDrop (r : RxRegs) : RxRegs := { r with state := R_IDLE }

/-- Return from a transmit drop: `tx_state <- T_IDLE` when the eop beat is consumed (R381, 44_tx_pipeline.md R232). `req_ip` and `mac`
keep their values: only `TX_START` writes `req_ip` (10_state.md R33), which R381 does not name among the values left (log entry 18). -/
def TxRegs.leaveDrop (r : TxRegs) : TxRegs := { r with state := T_IDLE }

/-! Reset (70_reset_and_hazards.md R400, R401). -/

/-- Every register at its reset value for the configuration the state holds (R43, R401). The configuration, the inputs
and the records are left to the caller. -/
def State.resetRegisters (s : State) : State :=
  { s with
    ckTx := { acc := 0x0000, cnt := 0 }
    ckRx := { acc := 0x0000, cnt := 0 }
    fr := { state := F_IDLE, idx := 0, h := Header.zero }
    ex := { state := E_IDLE, cnt := 0, first := false, g := Header.zero }
    tx := { state := T_IDLE, reqIp := 0x00000000, mac := 0x000000000000 }
    rx := { state := R_IDLE }
    arb := { grant := .ofPort s.cfg (s.cfg.nports - 1), busy := false } }

/-- A step begins with no event recorded. -/
def State.begin (s : State) : State := { s with events := [] }

/-- A clock cycle ends: its inputs are consumed and kept in `seen`, and the cycle number advances. -/
def State.endCycle (s : State) : State :=
  { s with inputs := s.inputs.tail, seen := s.curIn, cycle := s.cycle + 1 }

end Sys2Proof.Machine
end

