-- ==== Sys2Proof/Machine/Operands.lean ====
section
/-! DEFINITION. The operand fields of a header and the combinational outputs of every unit, each written from the unit's
own outputs rule. The forward pass reads no ready input; the backward pass follows it (47_top_level.md R350). -/

namespace Sys2Proof.Machine

/-! Packing (42_framer.md R160) and unpacking (43_extractor.md R190). -/

/-- `ASSEMBLE(dst_ip, protocol, length)` (R160). -/
def assemble (c : Config) (dstIp : Ip) (protocol : Byte) (length : Half) : Header :=
  let h := putByte (putByte (putByte Header.zero 0 0x45) 8 c.ttlDefault) 9 protocol
  put32 (put32 (put16 h 2 (length + 20)) 12 c.localIp) 16 dstIp

/-- `version(G) = G[0][7:4]` (R190). -/
def version (X : Header) : BitVec 4 := (byteAt X 0).extractLsb' 4 4

/-- `ihl(G) = G[0][3:0]` (R190). -/
def ihl (X : Header) : BitVec 4 := (byteAt X 0).extractLsb' 0 4

/-- `total_length(G) = BE16(G, 2)` (R190). -/
def totalLength (X : Header) : Half := be16 X 2

/-- `identification(G) = BE16(G, 4)`; no rule uses it (R190). -/
def identification (X : Header) : Half := be16 X 4

/-- `ttl(G) = G[8]`; no rule uses it (R190). -/
def ttl (X : Header) : Byte := byteAt X 8

/-- `protocol(G) = G[9]` (R190). -/
def protocol (X : Header) : Byte := byteAt X 9

/-- `checksum(G) = BE16(G, 10)` (R190). -/
def checksumField (X : Header) : Half := be16 X 10

/-- `src_ip(G) = BE32(G, 12)` (R190). -/
def srcIp (X : Header) : Ip := be32 X 12

/-- `dst_ip(G) = BE32(G, 16)` (R190). -/
def dstIp (X : Header) : Ip := be32 X 16

/-! The checksum engines (41_checksum.md R134, R135). -/

/-- `CK.value = ~CK.acc` (R135). -/
def ckValue (s : State) (u : CkInst) : Half := ~~~ (s.ck u).acc

/-- `CK.done = (CK.cnt == CK.N)` (R134). -/
def ckDone (s : State) (u : CkInst) : Bool := (s.ck u).cnt.toNat == numBatches s.cfg u

/-- The outputs of an instance (R135). -/
def ckOut (s : State) (u : CkInst) : CkOut := { value := ckValue s u, done := ckDone s u }

/-! Which registers leave a unit's rules without a meaning (30_encoding.md R121; log entries 3 and 4). -/

/-- The framer's registers are illegal: the unused state code (42_framer.md R172), or in `F_HEADER` a byte index that is no
header offset (R121). -/
def frIllegal (r : FrRegs) : Bool :=
  r.state == 0b11#2 || (r.state == F_HEADER && decide (20 ≤ r.idx.toNat))

/-- The extractor's registers are illegal: the unused state code (43_extractor.md R203), or in `E_HEADER` a byte counter
outside 1 to 19 (R121). -/
def exIllegal (r : ExRegs) : Bool :=
  r.state == 0b11#2 || (r.state == E_HEADER && (r.cnt == 0 || decide (20 ≤ r.cnt.toNat)))

/-! Forward pass, transmit path. -/

/-- `MO`, the multiplexer's output beat (46_crossbar.md R303): while busy the beat the granted port presents, all 0 when it presents none
(47_top_level.md R349; log entry 8); a grant that names no port gives no beat (log entry 19). -/
def mo (s : State) : SubBeat := if s.arb.busy then s.utxAt s.arb.grant.index else {}

/-- `HB(i)`, the byte the framer emits at header offset `i` (42_framer.md R161). -/
def headerByte (s : State) (i : Nat) (h : i < 20) : Byte :=
  if i = 10 then (ckValue s .tx).extractLsb' 8 8
  else if i = 11 then (ckValue s .tx).extractLsb' 0 8
  else byteAt s.fr.h i h

/-- `FRS`, the framer's output beat (42_framer.md R162). When `valid = 0` every other signal is 0. -/
def frs (s : State) : FrsBeat :=
  if s.fr.state = F_HEADER then
    if h : s.fr.idx.toNat < 20 then
      { valid := true, data := headerByte s s.fr.idx.toNat h, sop := s.fr.idx == 0, eop := false }
    else {}
  else if s.fr.state = F_PAYLOAD then
    if (mo s).valid then { valid := true, data := (mo s).data, sop := false, eop := (mo s).eop } else {}
  else {}

/-- `L2TX`, the transport beat (44_tx_pipeline.md R220). When `valid = 0` every other signal is 0. -/
def l2tx (s : State) : FrameBeat :=
  if s.tx.state = T_SEND ∧ (frs s).valid = true then
    { valid := true, data := (frs s).data, sop := (frs s).sop, eop := (frs s).eop, error := false,
      dstMac := s.tx.mac, srcMac := s.cfg.localMac, ethertype := s.cfg.ethertype }
  else {}

/-- `ARQ`, the resolver request (R220). -/
def arq (s : State) : ArqMsg := if s.tx.state = T_REQUEST then { valid := true, ip := s.tx.reqIp } else {}

/-- `ARS.ready` (R220). -/
def arsReady (s : State) : Bool := s.tx.state == T_AWAIT

/-- `unreachable = ARS.valid & ARS.failed` in `T_AWAIT`, 0 elsewhere (R220). -/
def unreachable (s : State) : Bool := s.tx.state == T_AWAIT && s.curIn.ars.valid && s.curIn.ars.failed

/-! Forward pass, receive path. -/

/-- `EXS`, the extractor's output beat (43_extractor.md R191). When `valid = 0` every other signal is 0. -/
def exs (s : State) : RawBeat :=
  if s.ex.state = E_PAYLOAD ∧ s.curIn.l2rx.valid = true then
    { valid := true, data := s.curIn.l2rx.data, sop := s.ex.first, eop := s.curIn.l2rx.eop,
      error := s.curIn.l2rx.error }
  else {}

/-- `RXO`, the receive pipeline's output beat (45_rx_pipeline.md R261). When `valid = 0` every other signal is 0. -/
def rxo (s : State) : DelBeat :=
  if s.rx.state = R_PRESENT ∧ (exs s).valid = true then
    { valid := true, data := (exs s).data, sop := (exs s).sop, eop := (exs s).eop, error := (exs s).error,
      srcIp := srcIp s.ex.g, protocol := protocol s.ex.g, length := totalLength s.ex.g - 20 }
  else {}

/-- The user port registered for a protocol number, if any (46_crossbar.md R310). -/
def portOf (c : Config) (p : Byte) : Option Nat := c.proto.findIdx? (fun q => q == p)

/-- The protocol sideband that picks the user port: in `R_PRESENT` it is `protocol(G)`, as the block of 45_rx_pipeline.md R261 gives it,
also in a cycle in which no beat is presented, so that the packet's port decides the readies through the whole packet (70_reset_and_hazards.md
R412, 43_extractor.md R204). While `RXO` carries a beat it is `RXO.protocol` (log entry 8). -/
def matchProtocol (s : State) : Byte := if s.rx.state = R_PRESENT then protocol s.ex.g else 0

/-- `m` and `m_ok` in one: the port registered for the protocol sideband (R310). -/
def matchedPort (s : State) : Option Nat := portOf s.cfg (matchProtocol s)

/-- `URX[k]` for a port `k` (R310): the beat for the matching port, all signals 0 for the others. -/
def urxAt (s : State) (k : Nat) : DelBeat := if matchedPort s = some k then rxo s else {}

/-- `URX[0..NPORTS-1]` (R310). -/
def urx (s : State) : List DelBeat := (List.range s.cfg.nports).map (urxAt s)

/-! Backward pass, transmit path. -/

/-- `FRS.ready` (44_tx_pipeline.md R220). -/
def frsReady (s : State) : Bool :=
  if s.tx.state = T_SEND then s.curIn.l2txReady
  else if s.tx.state = T_DROP then true
  else false

/-- `MO.ready` (42_framer.md R162). -/
def moReady (s : State) : Bool :=
  if s.fr.state = F_IDLE then !(mo s).sop
  else if s.fr.state = F_PAYLOAD then frsReady s
  else false

/-- `UTX[k].ready` (46_crossbar.md R303). -/
def utxReadyAt (s : State) (k : Nat) : Bool := s.arb.busy && (k == s.arb.grant.index) && moReady s

/-- `UTX[0..NPORTS-1].ready` (R303). -/
def utxReady (s : State) : List Bool := (List.range s.cfg.nports).map (utxReadyAt s)

/-! Backward pass, receive path. -/

/-- `RXO.ready`: the matching port's ready, or 1 where no port matches (46_crossbar.md R310). -/
def rxoReady (s : State) : Bool :=
  match matchedPort s with
  | some m => s.urxReadyAt m
  | none => true

/-- `EXS.ready` (45_rx_pipeline.md R261). -/
def exsReady (s : State) : Bool :=
  if s.rx.state = R_PRESENT then rxoReady s
  else if s.rx.state = R_DROP then true
  else false

/-- `L2RX.ready` (43_extractor.md R191). Illegal registers drive 0, as the unused state code does. -/
def l2rxReady (s : State) : Bool :=
  if exIllegal s.ex then false
  else if s.ex.state = E_PAYLOAD then exsReady s
  else true

/-! What each unit drives. -/

/-- The multiplexer's outputs (R303). -/
def muxOut (s : State) : MuxOut := { mo := mo s, utxReady := utxReady s }

/-- The framer's outputs (R162). -/
def frOut (s : State) : FrOut := { moReady := moReady s, frs := frs s }

/-- The transmit pipeline's outputs (R220). -/
def txOut (s : State) : TxOut :=
  { frsReady := frsReady s, l2tx := l2tx s, arq := arq s, arsReady := arsReady s, unreachable := unreachable s }

/-- The extractor's outputs (R191). -/
def exOut (s : State) : ExOut := { l2rxReady := l2rxReady s, exs := exs s }

/-- The receive pipeline's outputs (R261). -/
def rxOut (s : State) : RxOut := { exsReady := exsReady s, rxo := rxo s }

/-- The demultiplexer's outputs (R310). -/
def dmxOut (s : State) : DmxOut := { rxoReady := rxoReady s, urx := urx s }

/-- Every output of the cycle (47_top_level.md R349, R350). -/
def evaluate (s : State) : Outputs :=
  { mux := muxOut s, fr := frOut s, ckTx := ckOut s .tx, ckRx := ckOut s .rx, tx := txOut s, ex := exOut s,
    rx := rxOut s, dmx := dmxOut s }

/-! A unit's operation: it drives its outputs and makes its register writes (00_scope.md R16, R17). Each takes the state
before the edge and the registers after it. -/

/-- A checksum engine instance performs an operation. -/
def State.commitCk (s : State) (u : CkInst) (r : CkRegs) : State :=
  match u with
  | .tx => { s with ckTx := r, out := { s.out with ckTx := ckOut s .tx } }
  | .rx => { s with ckRx := r, out := { s.out with ckRx := ckOut s .rx } }

/-- The framer performs an operation. -/
def State.commitFr (s : State) (r : FrRegs) : State := { s with fr := r, out := { s.out with fr := frOut s } }

/-- The extractor performs an operation. -/
def State.commitEx (s : State) (r : ExRegs) : State := { s with ex := r, out := { s.out with ex := exOut s } }

/-- The transmit pipeline performs an operation. -/
def State.commitTx (s : State) (r : TxRegs) : State := { s with tx := r, out := { s.out with tx := txOut s } }

/-- The receive pipeline performs an operation. -/
def State.commitRx (s : State) (r : RxRegs) : State := { s with rx := r, out := { s.out with rx := rxOut s } }

/-- The multiplexer performs an operation. -/
def State.commitArb (s : State) (r : ArbRegs) : State := { s with arb := r, out := { s.out with mux := muxOut s } }

/-- The demultiplexer performs an operation; it has no register (10_state.md R38). -/
def State.commitDmx (s : State) : State := { s with out := { s.out with dmx := dmxOut s } }

end Sys2Proof.Machine
end

