-- ==== Sys2Proof/Machine/Flags.lean ====
section
/-! DEFINITION. The one-bit status values that are functions of registers and inputs (10_state.md R39), the cause of a
rejected header, and the select words formed from them (30_encoding.md R106 to R112). -/

namespace Sys2Proof.Machine

/-- `hdr_ok` (45_rx_pipeline.md R260). -/
def hdrOk (s : State) : Bool :=
  ckValue s .rx == 0x0000 && version s.ex.g == 4 && ihl s.ex.g == 5 && dstIp s.ex.g == s.cfg.localIp

/-- The cause of a rejected header: the first of the three conditions that holds (R260). For a header that is not
rejected it is not read. -/
def rejectCause (s : State) : Cause :=
  if version s.ex.g ≠ 4 ∨ ihl s.ex.g ≠ 5 then .malformedHeader
  else if ckValue s .rx ≠ 0 then .checksumMismatch
  else .notAddressedHere

/-- `CK.reset` (41_checksum.md R139, R140). -/
def ckResetIn (s : State) : CkInst → Bool
  | .tx => s.fr.state == F_IDLE
  | .rx => s.rx.state == R_IDLE

/-- `CK.ce` (R139, R140). -/
def ckCeIn (s : State) : CkInst → Bool
  | .tx => s.fr.state != F_IDLE
  | .rx => s.rx.state == R_CHECK

/-- `any_req = OR over k of UTX[k].valid` (R111). -/
def anyReq (s : State) : Bool := (List.range s.cfg.nports).any (fun k => (s.utxAt k).valid)

/-- The port registered for `RXO.protocol`, as `DMXSEL` reads it: that signal itself, which is 0 while `RXO` carries no beat (R111,
45_rx_pipeline.md R261). -/
def beatPort (s : State) : Option Nat := portOf s.cfg (rxo s).protocol

/-- `m_ok` of `DMXSEL` (R111). -/
def mOk (s : State) : Bool := (beatPort s).isSome

/-- `m_ready = URX[m].ready` of `DMXSEL`, 0 when `m_ok = 0` (R111). -/
def mReady (s : State) : Bool :=
  match beatPort s with
  | some m => s.urxReadyAt m
  | none => false

/-- `dup`: the protocol number being registered is already in the registry (R112, R300). -/
def isDup (s : State) : Bool :=
  match s.pending with
  | p :: _ => s.cfg.proto.contains p
  | [] => false

/-- `CKSEL` of an instance (R106). -/
def ckSel (s : State) (u : CkInst) : CkSel := ⟨ckResetIn s u, ckCeIn s u, ckDone s u⟩

/-- `FRSEL` (R107). -/
def frSel (s : State) : FrSel :=
  ⟨s.fr.state, s.fr.idx == 19, (mo s).valid, (mo s).sop, (mo s).eop, frsReady s⟩

/-- `EXSEL` (R108). -/
def exSel (s : State) : ExSel :=
  ⟨s.ex.state, s.ex.cnt == 19, s.curIn.l2rx.valid, s.curIn.l2rx.sop, s.curIn.l2rx.eop, exsReady s⟩

/-- `TXSEL` (R109). -/
def txSel (s : State) : TxSel :=
  ⟨s.tx.state, (frs s).valid, (frs s).sop, (frs s).eop, ckDone s .tx, s.curIn.arqReady, s.curIn.ars.valid,
   s.curIn.ars.failed, s.curIn.l2txReady⟩

/-- `RXSEL` (R110). -/
def rxSel (s : State) : RxSel :=
  ⟨s.rx.state, (exs s).valid, (exs s).sop, (exs s).eop, ckDone s .rx, hdrOk s, rxoReady s⟩

/-- `ARBSEL` (R111). -/
def arbSel (s : State) : ArbSel := ⟨s.arb.busy, anyReq s, (mo s).valid, moReady s, (mo s).eop⟩

/-- `DMXSEL` (R111). -/
def dmxSel (s : State) : DmxSel := ⟨(rxo s).valid, mOk s, mReady s⟩

/-- The select word of a table, as bits, formed from the state and the inputs of the cycle (R106 to R112). -/
def selWord (s : State) : Table → SelWord
  | .ck u => .ck u (ckSel s u).pack
  | .fr => .fr (frSel s).pack
  | .ex => .ex (exSel s).pack
  | .tx => .tx (txSel s).pack
  | .rx => .rx (rxSel s).pack
  | .arb => .arb (arbSel s).pack
  | .dmx => .dmx (dmxSel s).pack
  | .cfg => .cfg (BitVec.ofBool (isDup s))
  | .top => .top (BitVec.ofBool s.curIn.rst)

end Sys2Proof.Machine
end

