-- ==== Sys2Proof/Machine/Checksum.lean ====
section
/-! DEFINITION. The operations of the checksum engines (41_checksum.md R136 to R138). -/

namespace Sys2Proof.Machine

/-- The unit name of an instance. -/
def ckUnit : CkInst → UnitName
  | .tx => .CK_TX
  | .rx => .CK_RX

/-- A counter outside its range: the instance keeps its registers and records `IllegalState` (30_encoding.md R121; log entry
4). -/
def ckFault (u : CkInst) (s : State) : State := (s.commitCk u (s.ck u)).raise .illegalState (ckUnit u)

/-- `CK_RESET`: clear the accumulator and the batch counter (R136). -/
def ckReset (u : CkInst) (s : State) : State :=
  s.commitCk u { acc := 0x0000, cnt := 0 }

/-- The meaning of the operation of R136. -/
def execCkReset (u : CkInst) (s : State) : Host.Outcome State Fault Refusal := .next (ckReset u s)

/-- `CK_ACCUM`: fold batch `CK.cnt` of the header words into the accumulator, in list order; the batches are numbered
0 to `N-1` (R137). -/
def ckAccum (u : CkInst) (s : State) : State :=
  if (s.ck u).cnt.toNat < numBatches s.cfg u then
    s.commitCk u
      { acc := foldFrom (s.ck u).acc ((batch s.cfg u (s.ck u).cnt.toNat).map (headerWord (s.ckHeader u))),
        cnt := (s.ck u).cnt + 1 }
  else ckFault u s

/-- The meaning of the operation of R137. -/
def execCkAccum (u : CkInst) (s : State) : Host.Outcome State Fault Refusal := .next (ckAccum u s)

/-- `CK_HOLD`: keep the state (R138). -/
def ckHold (u : CkInst) (s : State) : State :=
  s.commitCk u (s.ck u)

/-- The meaning of the operation of R138. -/
def execCkHold (u : CkInst) (s : State) : Host.Outcome State Fault Refusal := .next (ckHold u s)

end Sys2Proof.Machine
end

