-- ==== Sys2Proof/Machine/Crossbar.lean ====
section
/-! DEFINITION. The operations of the protocol crossbar: multiplexer (46_crossbar.md R305 to R309), demultiplexer (R311 to R314) and
registration (R301, R302). -/

namespace Sys2Proof.Machine

/-- `next(g)`: the first of `(g+1) mod n, ..., (g+n) mod n` whose port requests (R304); none where no port does. A `g`
at or above `NPORTS` is rotated by the same formula (log entry 19). -/
def nextGrant (s : State) (g : Nat) : Option Nat :=
  ((List.range s.cfg.nports).map (fun j => (g + 1 + j) % s.cfg.nports)).find? (fun k => (s.utxAt k).valid)

/-- `XB_ARB_GRANT`: grant the outbound path to the next requesting port. With no request `next` is undefined and the
table never selects this operation; the grant is then kept (log entry 9) (R305). -/
def xbArbGrant (s : State) : State :=
  s.commitArb
    { grant := ((nextGrant s s.arb.grant.index).map (GrantReg.ofPort s.cfg)).getD s.arb.grant, busy := true }

/-- The meaning of the operation of R305. -/
def execXbArbGrant (s : State) : Host.Outcome State Fault Refusal := .next (xbArbGrant s)

/-- `XB_ARB_IDLE`: no port requests (R306). -/
def xbArbIdle (s : State) : State :=
  s.commitArb s.arb

/-- The meaning of the operation of R306. -/
def execXbArbIdle (s : State) : Host.Outcome State Fault Refusal := .next (xbArbIdle s)

/-- `XB_MUX_EOP`: pass the granted port's end-of-packet beat and release the grant (R308). -/
def xbMuxEop (s : State) : State :=
  s.commitArb { s.arb with busy := false }

/-- The meaning of the operation of R308. -/
def execXbMuxEop (s : State) : Host.Outcome State Fault Refusal := .next (xbMuxEop s)

/-- `XB_MUX_BEAT`: pass one beat of the granted port that is not its last (R307). -/
def xbMuxBeat (s : State) : State :=
  s.commitArb s.arb

/-- The meaning of the operation of R307. -/
def execXbMuxBeat (s : State) : Host.Outcome State Fault Refusal := .next (xbMuxBeat s)

/-- `XB_MUX_STALL`: the granted port has no beat, or the framer is not ready (R309). -/
def xbMuxStall (s : State) : State :=
  s.commitArb s.arb

/-- The meaning of the operation of R309. -/
def execXbMuxStall (s : State) : Host.Outcome State Fault Refusal := .next (xbMuxStall s)

/-- `XB_DMX_DELIVER`: deliver one beat to the matching user port (R311). -/
def xbDmxDeliver (s : State) : State :=
  s.commitDmx

/-- The meaning of the operation of R311. -/
def execXbDmxDeliver (s : State) : Host.Outcome State Fault Refusal := .next (xbDmxDeliver s)

/-- `XB_DMX_STALL`: the matching user port is not ready (R312). -/
def xbDmxStall (s : State) : State :=
  s.commitDmx

/-- The meaning of the operation of R312. -/
def execXbDmxStall (s : State) : Host.Outcome State Fault Refusal := .next (xbDmxStall s)

/-- `XB_DMX_DISCARD`: discard a beat with no registered port; the drop is recorded once per packet, on its sop beat (R313). -/
def xbDmxDiscard (s : State) : State :=
  if (rxo s).sop then s.commitDmx.raise .unregisteredProtocol .DMX else s.commitDmx

/-- The meaning of the operation of R313. -/
def execXbDmxDiscard (s : State) : Host.Outcome State Fault Refusal := .next (xbDmxDiscard s)

/-- `XB_DMX_IDLE`: no beat (R314). -/
def xbDmxIdle (s : State) : State :=
  s.commitDmx

/-- The meaning of the operation of R314. -/
def execXbDmxIdle (s : State) : Host.Outcome State Fault Refusal := .next (xbDmxIdle s)

/-- `XB_REGISTER_DUP`: the configuration is refused; the registrations already made stay, and none follows (R376) (R302). The record names
the unit `CFG` and the number of the next cycle: R380 puts this fault before any cycle and gives it neither: DESIGN CHOICE (log entry 20). -/
def xbRegisterDup (s : State) : State :=
  { s.begin with refused := true }.raise .duplicateRegistration .CFG

/-- The meaning of the operation of R302. -/
def execXbRegisterDup (s : State) : Host.Outcome State Fault Refusal := .next (xbRegisterDup s)

/-- `XB_REGISTER`: the next pending protocol number becomes the next user port. `arb_grant` keeps its value, in the width R36
gives the longer registry (log entry 5). With none pending nothing is registered (log entry 9) (R301). -/
def xbRegister (s : State) : State :=
  match s.pending with
  | p :: ps =>
    let c := { s.cfg with proto := s.cfg.proto ++ [p] }
    { s.begin with cfg := c, pending := ps, arb := { s.arb with grant := .ofPort c s.arb.grant.index } }
  | [] => s.begin

/-- The meaning of the operation of R301. -/
def execXbRegister (s : State) : Host.Outcome State Fault Refusal := .next (xbRegister s)

end Sys2Proof.Machine
end

