-- ==== Sys2Proof/Machine/Extractor.lean ====
section
/-! DEFINITION. The operations of the header extractor (43_extractor.md R192 to R203). -/

namespace Sys2Proof.Machine

/-- `fault IllegalState(EX)`: the extractor keeps its registers, performs nothing, and records the event; a reset leaves the
fault (60_exceptions.md R380; log entry 3). -/
def exFault (s : State) : State := (s.commitEx s.ex).raise .illegalState .EX

/-- `G[i] <- v` for a counter value `i`; no byte above offset 19 exists (20_memory.md R60). -/
def storeByte (g : Header) (i : BitVec 5) (v : Byte) : Header :=
  if h : i.toNat < 20 then putByte g i.toNat v h else g

/-- `EX_IDLE_RUNT`: discard a one-byte frame, recorded as `RuntFrame` (R193). -/
def exIdleRunt (s : State) : State :=
  (s.commitEx s.ex).raise .runtFrame .EX

/-- The meaning of the operation of R193. -/
def execExIdleRunt (s : State) : Host.Outcome State Fault Refusal := .next (exIdleRunt s)

/-- `EX_START`: store the first header byte of a new frame (R192). -/
def exStart (s : State) : State :=
  s.commitEx { s.ex with g := putByte s.ex.g 0 s.curIn.l2rx.data, cnt := 1, state := E_HEADER }

/-- The meaning of the operation of R192. -/
def execExStart (s : State) : Host.Outcome State Fault Refusal := .next (exStart s)

/-- `EX_SKIP`: discard a beat that does not start a frame, recorded as `StrayBeat` (R194). -/
def exSkip (s : State) : State :=
  (s.commitEx s.ex).raise .strayBeat .EX

/-- The meaning of the operation of R194. -/
def execExSkip (s : State) : Host.Outcome State Fault Refusal := .next (exSkip s)

/-- `EX_IDLE_WAIT`: wait for a frame (R195). -/
def exIdleWait (s : State) : State :=
  s.commitEx s.ex

/-- The meaning of the operation of R195. -/
def execExIdleWait (s : State) : Host.Outcome State Fault Refusal := .next (exIdleWait s)

/-- `EX_HDR_RUNT`: a frame ends inside its header, recorded as `RuntFrame`; a byte counter outside 1 to 19 is
`IllegalState` (R121) (R198). The byte is stored and the state written, as R198, R28 and R31 say, where R380 says that a runt changes no
register (log entry 18). -/
def exHdrRunt (s : State) : State :=
  if exIllegal s.ex then exFault s
  else
    (s.commitEx { s.ex with g := storeByte s.ex.g s.ex.cnt s.curIn.l2rx.data, state := E_IDLE }).raise .runtFrame .EX

/-- The meaning of the operation of R198. -/
def execExHdrRunt (s : State) : Host.Outcome State Fault Refusal := .next (exHdrRunt s)

/-- `EX_HDR_LAST`: store header byte 19 and enter the payload phase (R197). -/
def exHdrLast (s : State) : State :=
  s.commitEx { s.ex with g := putByte s.ex.g 19 s.curIn.l2rx.data, first := true, state := E_PAYLOAD }

/-- The meaning of the operation of R197. -/
def execExHdrLast (s : State) : Host.Outcome State Fault Refusal := .next (exHdrLast s)

/-- `EX_HDR`: store a header byte numbered 1 to 18; a byte counter outside 1 to 19 is `IllegalState` (R121) (R196). -/
def exHdr (s : State) : State :=
  if exIllegal s.ex then exFault s
  else s.commitEx { s.ex with g := storeByte s.ex.g s.ex.cnt s.curIn.l2rx.data, cnt := s.ex.cnt + 1 }

/-- The meaning of the operation of R196. -/
def execExHdr (s : State) : Host.Outcome State Fault Refusal := .next (exHdr s)

/-- `EX_HDR_WAIT`: wait for the next header byte; a byte counter outside 1 to 19 is `IllegalState` (R121) (R199). -/
def exHdrWait (s : State) : State :=
  if exIllegal s.ex then exFault s else s.commitEx s.ex

/-- The meaning of the operation of R199. -/
def execExHdrWait (s : State) : Host.Outcome State Fault Refusal := .next (exHdrWait s)

/-- `EX_PAY_EOP`: pass the last byte of the frame and return to idle (R201). -/
def exPayEop (s : State) : State :=
  s.commitEx { s.ex with first := false, state := E_IDLE }

/-- The meaning of the operation of R201. -/
def execExPayEop (s : State) : Host.Outcome State Fault Refusal := .next (exPayEop s)

/-- `EX_PAY`: pass one payload byte that is not the last (R200). -/
def exPay (s : State) : State :=
  s.commitEx { s.ex with first := false }

/-- The meaning of the operation of R200. -/
def execExPay (s : State) : Host.Outcome State Fault Refusal := .next (exPay s)

/-- `EX_PAY_STALL`: wait for a payload byte or for downstream (R202). -/
def exPayStall (s : State) : State :=
  s.commitEx s.ex

/-- The meaning of the operation of R202. -/
def execExPayStall (s : State) : Host.Outcome State Fault Refusal := .next (exPayStall s)

/-- `EX_ILLEGAL`: the unused state code (R203). -/
def exIllegalOp (s : State) : State :=
  exFault s

/-- The meaning of the operation of R203. -/
def execExIllegal (s : State) : Host.Outcome State Fault Refusal := .next (exIllegalOp s)

end Sys2Proof.Machine
end

