-- ==== Sys2Proof/Machine/Framer.lean ====
section
/-! DEFINITION. The operations of the header framer (42_framer.md R163 to R172). -/

namespace Sys2Proof.Machine

/-- `fault IllegalState(FR)`: the framer keeps its registers, performs nothing, and records the event; a reset leaves the
fault (60_exceptions.md R380; log entry 3). -/
def frFault (s : State) : State := (s.commitFr s.fr).raise .illegalState .FR

/-- `FR_LOAD`: latch the submission's header; the sop beat is not consumed (R163). -/
def frLoad (s : State) : State :=
  s.commitFr
    { state := F_HEADER, idx := 0, h := assemble s.cfg (mo s).dstIp (mo s).protocol (mo s).length }

/-- The meaning of the operation of R163. -/
def execFrLoad (s : State) : Host.Outcome State Fault Refusal := .next (frLoad s)

/-- `FR_SKIP`: discard a beat that does not start a packet, recorded as `StrayBeat` (R164). No register is written, so `fr_idx` keeps
its last value, which R381 does not name among the values left (log entry 18). -/
def frSkip (s : State) : State :=
  (s.commitFr s.fr).raise .strayBeat .FR

/-- The meaning of the operation of R164. -/
def execFrSkip (s : State) : Host.Outcome State Fault Refusal := .next (frSkip s)

/-- `FR_IDLE_WAIT`: wait for a submission (R165). -/
def frIdleWait (s : State) : State :=
  s.commitFr s.fr

/-- The meaning of the operation of R165. -/
def execFrIdleWait (s : State) : Host.Outcome State Fault Refusal := .next (frIdleWait s)

/-- `FR_HDR_LAST`: emit header byte 19 and enter the payload phase; `fr_idx` keeps its value (R167). -/
def frHdrLast (s : State) : State :=
  s.commitFr { s.fr with state := F_PAYLOAD }

/-- The meaning of the operation of R167. -/
def execFrHdrLast (s : State) : Host.Outcome State Fault Refusal := .next (frHdrLast s)

/-- `FR_HDR`: emit one header byte other than the last; a byte index that is no header offset is `IllegalState` (R121) (R166). -/
def frHdr (s : State) : State :=
  if frIllegal s.fr then frFault s else s.commitFr { s.fr with idx := s.fr.idx + 1 }

/-- The meaning of the operation of R166. -/
def execFrHdr (s : State) : Host.Outcome State Fault Refusal := .next (frHdr s)

/-- `FR_HDR_STALL`: hold the current header byte; a byte index that is no header offset is `IllegalState` (R121) (R168). -/
def frHdrStall (s : State) : State :=
  if frIllegal s.fr then frFault s else s.commitFr s.fr

/-- The meaning of the operation of R168. -/
def execFrHdrStall (s : State) : Host.Outcome State Fault Refusal := .next (frHdrStall s)

/-- `FR_PAY_EOP`: pass the last payload byte and return to idle (R170). -/
def frPayEop (s : State) : State :=
  s.commitFr { s.fr with state := F_IDLE }

/-- The meaning of the operation of R170. -/
def execFrPayEop (s : State) : Host.Outcome State Fault Refusal := .next (frPayEop s)

/-- `FR_PAY`: pass one payload byte that is not the last (R169). -/
def frPay (s : State) : State :=
  s.commitFr s.fr

/-- The meaning of the operation of R169. -/
def execFrPay (s : State) : Host.Outcome State Fault Refusal := .next (frPay s)

/-- `FR_PAY_STALL`: wait for a payload byte or for downstream (R171). -/
def frPayStall (s : State) : State :=
  s.commitFr s.fr

/-- The meaning of the operation of R171. -/
def execFrPayStall (s : State) : Host.Outcome State Fault Refusal := .next (frPayStall s)

/-- `FR_ILLEGAL`: the unused state code (R172). -/
def frIllegalOp (s : State) : State :=
  frFault s

/-- The meaning of the operation of R172. -/
def execFrIllegal (s : State) : Host.Outcome State Fault Refusal := .next (frIllegalOp s)

end Sys2Proof.Machine
end

