-- ==== Sys2Proof/Machine/Receive.lean ====
section
/-! DEFINITION. The operations of the receive pipeline (45_rx_pipeline.md R262 to R272). -/

namespace Sys2Proof.Machine



/-- `RX_START`: a new frame's header is buffered; nothing transfers (R262). -/
def rxStart (s : State) : State :=
  s.commitRx { s.rx with state := R_CHECK }

/-- The meaning of the operation of R262. -/
def execRxStart (s : State) : Host.Outcome State Fault Refusal := .next (rxStart s)

/-- `RX_IDLE_WAIT`: wait in idle (R263). -/
def rxIdleWait (s : State) : State :=
  s.commitRx s.rx

/-- The meaning of the operation of R263. -/
def execRxIdleWait (s : State) : Host.Outcome State Fault Refusal := .next (rxIdleWait s)

/-- `RX_ACCEPT`: the header is valid (R264). -/
def rxAccept (s : State) : State :=
  s.commitRx { s.rx with state := R_PRESENT }

/-- The meaning of the operation of R264. -/
def execRxAccept (s : State) : Host.Outcome State Fault Refusal := .next (rxAccept s)

/-- `RX_REJECT`: the header is not valid; the drop is recorded with the cause of R260 (R265). -/
def rxReject (s : State) : State :=
  (s.commitRx { s.rx with state := R_DROP }).raise (rejectCause s) .RXP

/-- The meaning of the operation of R265. -/
def execRxReject (s : State) : Host.Outcome State Fault Refusal := .next (rxReject s)

/-- `RX_CHECK_WAIT`: the checksum pass is still running (R266). -/
def rxCheckWait (s : State) : State :=
  s.commitRx s.rx

/-- The meaning of the operation of R266. -/
def execRxCheckWait (s : State) : Host.Outcome State Fault Refusal := .next (rxCheckWait s)

/-- `RX_PRESENT_EOP`: forward the last payload byte and return to idle (R268). -/
def rxPresentEop (s : State) : State :=
  s.commitRx { s.rx with state := R_IDLE }

/-- The meaning of the operation of R268. -/
def execRxPresentEop (s : State) : Host.Outcome State Fault Refusal := .next (rxPresentEop s)

/-- `RX_PRESENT_BEAT`: forward one payload byte that is not the last (R267). -/
def rxPresentBeat (s : State) : State :=
  s.commitRx s.rx

/-- The meaning of the operation of R267. -/
def execRxPresentBeat (s : State) : Host.Outcome State Fault Refusal := .next (rxPresentBeat s)

/-- `RX_PRESENT_STALL`: no byte or no downstream readiness (R269). -/
def rxPresentStall (s : State) : State :=
  s.commitRx s.rx

/-- The meaning of the operation of R269. -/
def execRxPresentStall (s : State) : Host.Outcome State Fault Refusal := .next (rxPresentStall s)

/-- `RX_DROP_EOP`: discard the last byte and return from the drop (R271). -/
def rxDropEop (s : State) : State :=
  s.commitRx s.rx.leaveDrop

/-- The meaning of the operation of R271. -/
def execRxDropEop (s : State) : Host.Outcome State Fault Refusal := .next (rxDropEop s)

/-- `RX_DROP_BEAT`: discard one byte of a rejected frame that is not its last (R270). -/
def rxDropBeat (s : State) : State :=
  s.commitRx s.rx

/-- The meaning of the operation of R270. -/
def execRxDropBeat (s : State) : Host.Outcome State Fault Refusal := .next (rxDropBeat s)

/-- `RX_DROP_WAIT`: wait for the next byte to discard (R272). -/
def rxDropWait (s : State) : State :=
  s.commitRx s.rx

/-- The meaning of the operation of R272. -/
def execRxDropWait (s : State) : Host.Outcome State Fault Refusal := .next (rxDropWait s)

end Sys2Proof.Machine
end

