-- ==== Sys2Proof/Machine/Transmit.lean ====
section
/-! DEFINITION. The operations of the transmit pipeline (44_tx_pipeline.md R221 to R234). -/

namespace Sys2Proof.Machine

/-- `fault IllegalState(TXP)`: the transmit pipeline keeps its registers, performs nothing, and records the event; a reset
leaves the fault (60_exceptions.md R380; log entry 3). -/
def txFault (s : State) : State := (s.commitTx s.tx).raise .illegalState .TXP

/-- `TX_START`: latch the destination address for the resolution request; nothing transfers (R221). -/
def txStart (s : State) : State :=
  s.commitTx { s.tx with reqIp := be32 s.fr.h 16, state := T_REQUEST }

/-- The meaning of the operation of R221. -/
def execTxStart (s : State) : Host.Outcome State Fault Refusal := .next (txStart s)

/-- `TX_IDLE_WAIT`: wait in idle (R222). -/
def txIdleWait (s : State) : State :=
  s.commitTx s.tx

/-- The meaning of the operation of R222. -/
def execTxIdleWait (s : State) : Host.Outcome State Fault Refusal := .next (txIdleWait s)

/-- `TX_REQ_ACCEPT`: the resolver accepts the request (R223). -/
def txReqAccept (s : State) : State :=
  s.commitTx { s.tx with state := T_AWAIT }

/-- The meaning of the operation of R223. -/
def execTxReqAccept (s : State) : Host.Outcome State Fault Refusal := .next (txReqAccept s)

/-- `TX_REQ_WAIT`: the resolver is not ready for the request (R224). -/
def txReqWait (s : State) : State :=
  s.commitTx s.tx

/-- The meaning of the operation of R224. -/
def execTxReqWait (s : State) : Host.Outcome State Fault Refusal := .next (txReqWait s)

/-- `TX_UNRESOLVED`: the resolver answers with failure, recorded as `AddressUnresolved`; `ARS.mac` is ignored (R226). -/
def txUnresolved (s : State) : State :=
  (s.commitTx { s.tx with state := T_DROP }).raise .addressUnresolved .TXP

/-- The meaning of the operation of R226. -/
def execTxUnresolved (s : State) : Host.Outcome State Fault Refusal := .next (txUnresolved s)

/-- `TX_RESOLVED`: latch the resolved hardware address (R225). -/
def txResolved (s : State) : State :=
  s.commitTx { s.tx with mac := s.curIn.ars.mac, state := T_SEND }

/-- The meaning of the operation of R225. -/
def execTxResolved (s : State) : Host.Outcome State Fault Refusal := .next (txResolved s)

/-- `TX_AWAIT_WAIT`: wait for the resolver's response (R227). -/
def txAwaitWait (s : State) : State :=
  s.commitTx s.tx

/-- The meaning of the operation of R227. -/
def execTxAwaitWait (s : State) : Host.Outcome State Fault Refusal := .next (txAwaitWait s)

/-- `TX_SEND_EOP`: send the last byte of the datagram and return to idle (R229). -/
def txSendEop (s : State) : State :=
  s.commitTx { s.tx with state := T_IDLE }

/-- The meaning of the operation of R229. -/
def execTxSendEop (s : State) : Host.Outcome State Fault Refusal := .next (txSendEop s)

/-- `TX_SEND_BEAT`: send one byte of the datagram that is not its last (R228). -/
def txSendBeat (s : State) : State :=
  s.commitTx s.tx

/-- The meaning of the operation of R228. -/
def execTxSendBeat (s : State) : Host.Outcome State Fault Refusal := .next (txSendBeat s)

/-- `TX_SEND_STALL`: no byte or no transport readiness (R230). -/
def txSendStall (s : State) : State :=
  s.commitTx s.tx

/-- The meaning of the operation of R230. -/
def execTxSendStall (s : State) : Host.Outcome State Fault Refusal := .next (txSendStall s)

/-- `TX_DROP_EOP`: discard the last byte and return from the drop (R232). -/
def txDropEop (s : State) : State :=
  s.commitTx s.tx.leaveDrop

/-- The meaning of the operation of R232. -/
def execTxDropEop (s : State) : Host.Outcome State Fault Refusal := .next (txDropEop s)

/-- `TX_DROP_BEAT`: discard one byte of the datagram that is not its last (R231). -/
def txDropBeat (s : State) : State :=
  s.commitTx s.tx

/-- The meaning of the operation of R231. -/
def execTxDropBeat (s : State) : Host.Outcome State Fault Refusal := .next (txDropBeat s)

/-- `TX_DROP_WAIT`: wait for the next byte to discard (R233). -/
def txDropWait (s : State) : State :=
  s.commitTx s.tx

/-- The meaning of the operation of R233. -/
def execTxDropWait (s : State) : Host.Outcome State Fault Refusal := .next (txDropWait s)

/-- `TX_ILLEGAL`: an unused state code (R234). -/
def txIllegal (s : State) : State :=
  txFault s

/-- The meaning of the operation of R234. -/
def execTxIllegal (s : State) : Host.Outcome State Fault Refusal := .next (txIllegal s)

end Sys2Proof.Machine
end

