-- ==== Sys2Proof/Machine/Cycle.lean ====
section
/-! DEFINITION. The clock cycle: a unit performs the operation its select word chooses (30_encoding.md R113), all eight
units at once (47_top_level.md R351), or every register is reset (70_reset_and_hazards.md R400 to R402). -/

namespace Sys2Proof.Machine

/-- A unit performs an operation: the effect `exec` gives it (Sys2Proof/Laws/Cycle.lean proves the two agree). The
registration steps and the two whole-cycle operations are no unit's, and no unit's table selects them. -/
def perform (i : Instr) (s : State) : State :=
  match i with
  | .ckReset u _ => ckReset u s
  | .ckAccum u => ckAccum u s
  | .ckHold u _ => ckHold u s
  | .frLoad _ => frLoad s
  | .frSkip _ => frSkip s
  | .frIdleWait _ => frIdleWait s
  | .frHdrLast _ => frHdrLast s
  | .frHdr _ => frHdr s
  | .frHdrStall _ => frHdrStall s
  | .frPayEop _ => frPayEop s
  | .frPay _ => frPay s
  | .frPayStall _ => frPayStall s
  | .frIllegal _ => frIllegalOp s
  | .exIdleRunt _ => exIdleRunt s
  | .exStart _ => exStart s
  | .exSkip _ => exSkip s
  | .exIdleWait _ => exIdleWait s
  | .exHdrRunt _ => exHdrRunt s
  | .exHdrLast _ => exHdrLast s
  | .exHdr _ => exHdr s
  | .exHdrWait _ => exHdrWait s
  | .exPayEop _ => exPayEop s
  | .exPay _ => exPay s
  | .exPayStall _ => exPayStall s
  | .exIllegal _ => exIllegalOp s
  | .txStart _ => txStart s
  | .txIdleWait _ => txIdleWait s
  | .txReqAccept _ => txReqAccept s
  | .txReqWait _ => txReqWait s
  | .txUnresolved _ => txUnresolved s
  | .txResolved _ => txResolved s
  | .txAwaitWait _ => txAwaitWait s
  | .txSendEop _ => txSendEop s
  | .txSendBeat _ => txSendBeat s
  | .txSendStall _ => txSendStall s
  | .txDropEop _ => txDropEop s
  | .txDropBeat _ => txDropBeat s
  | .txDropWait _ => txDropWait s
  | .txIllegal _ => txIllegal s
  | .rxStart _ => rxStart s
  | .rxIdleWait _ => rxIdleWait s
  | .rxAccept _ => rxAccept s
  | .rxReject _ => rxReject s
  | .rxCheckWait _ => rxCheckWait s
  | .rxPresentEop _ => rxPresentEop s
  | .rxPresentBeat _ => rxPresentBeat s
  | .rxPresentStall _ => rxPresentStall s
  | .rxDropEop _ => rxDropEop s
  | .rxDropBeat _ => rxDropBeat s
  | .rxDropWait _ => rxDropWait s
  | .xbArbGrant _ => xbArbGrant s
  | .xbArbIdle _ => xbArbIdle s
  | .xbMuxEop _ => xbMuxEop s
  | .xbMuxBeat _ => xbMuxBeat s
  | .xbMuxStall _ => xbMuxStall s
  | .xbDmxDeliver => xbDmxDeliver s
  | .xbDmxStall => xbDmxStall s
  | .xbDmxDiscard _ => xbDmxDiscard s
  | .xbDmxIdle _ => xbDmxIdle s
  | .xbRegisterDup => s
  | .xbRegister => s
  | .reset => s
  | .run => s

/-- The unit of a table performs the operation its select word chooses in this cycle (R113). -/
def performUnit (t : Table) (s : State) : State :=
  match decode (selWord s t) with
  | .ok i => perform i s
  | .error _ => s

/-- The register writes, the outputs and the events of the eight units, each performed from the same registers and the
same inputs `b`, put together (00_scope.md R17, R351). No two units write the same register (10_state.md R21). -/
def performAll (b : State) : State :=
  let ct := performUnit (.ck .tx) b
  let cr := performUnit (.ck .rx) b
  let fr := performUnit .fr b
  let ex := performUnit .ex b
  let tx := performUnit .tx b
  let rx := performUnit .rx b
  let mx := performUnit .arb b
  let dx := performUnit .dmx b
  { b with
    ckTx := ct.ckTx
    ckRx := cr.ckRx
    fr := fr.fr
    ex := ex.ex
    tx := tx.tx
    rx := rx.rx
    arb := mx.arb
    out :=
      { mux := mx.out.mux, fr := fr.out.fr, ckTx := ct.out.ckTx, ckRx := cr.out.ckRx, tx := tx.out.tx,
        ex := ex.out.ex, rx := rx.out.rx, dmx := dx.out.dmx }
    events := ct.events ++ cr.events ++ fr.events ++ ex.events ++ tx.events ++ rx.events ++ mx.events ++ dx.events }

/-- `RUN`: one clock cycle with `rst = 0` (R351). -/
def runCycle (s : State) : State := (performAll s.begin).endCycle

/-- The meaning of the operation of R351. -/
def execRun (s : State) : Host.Outcome State Fault Refusal := .next (runCycle s)

/-- `RESET`: one clock cycle with `rst = 1` (R400). Every register takes its reset value (R401), every output is 0
(R402), and no event is recorded (60_exceptions.md R379). -/
def resetCycle (s : State) : State :=
  { s.begin.resetRegisters with out := Outputs.zero s.cfg.nports }.endCycle

/-- The meaning of the operation of R400. -/
def execReset (s : State) : Host.Outcome State Fault Refusal := .next (resetCycle s)

end Sys2Proof.Machine
end

