-- ==== Sys2Proof/Machine/Dispatch.lean ====
section
/-! DEFINITION. The meaning of every operation, one arm per row of spec/opcode_table.json. -/

namespace Sys2Proof.Machine

def exec (i : Instr) (s : State) : Host.Outcome State Fault Refusal :=
  match i with
  | .ckReset u _ => Sys2Proof.Machine.execCkReset u s
  | .ckAccum u => Sys2Proof.Machine.execCkAccum u s
  | .ckHold u _ => Sys2Proof.Machine.execCkHold u s
  | .frLoad _ => Sys2Proof.Machine.execFrLoad s
  | .frSkip _ => Sys2Proof.Machine.execFrSkip s
  | .frIdleWait _ => Sys2Proof.Machine.execFrIdleWait s
  | .frHdrLast _ => Sys2Proof.Machine.execFrHdrLast s
  | .frHdr _ => Sys2Proof.Machine.execFrHdr s
  | .frHdrStall _ => Sys2Proof.Machine.execFrHdrStall s
  | .frPayEop _ => Sys2Proof.Machine.execFrPayEop s
  | .frPay _ => Sys2Proof.Machine.execFrPay s
  | .frPayStall _ => Sys2Proof.Machine.execFrPayStall s
  | .frIllegal _ => Sys2Proof.Machine.execFrIllegal s
  | .exIdleRunt _ => Sys2Proof.Machine.execExIdleRunt s
  | .exStart _ => Sys2Proof.Machine.execExStart s
  | .exSkip _ => Sys2Proof.Machine.execExSkip s
  | .exIdleWait _ => Sys2Proof.Machine.execExIdleWait s
  | .exHdrRunt _ => Sys2Proof.Machine.execExHdrRunt s
  | .exHdrLast _ => Sys2Proof.Machine.execExHdrLast s
  | .exHdr _ => Sys2Proof.Machine.execExHdr s
  | .exHdrWait _ => Sys2Proof.Machine.execExHdrWait s
  | .exPayEop _ => Sys2Proof.Machine.execExPayEop s
  | .exPay _ => Sys2Proof.Machine.execExPay s
  | .exPayStall _ => Sys2Proof.Machine.execExPayStall s
  | .exIllegal _ => Sys2Proof.Machine.execExIllegal s
  | .txStart _ => Sys2Proof.Machine.execTxStart s
  | .txIdleWait _ => Sys2Proof.Machine.execTxIdleWait s
  | .txReqAccept _ => Sys2Proof.Machine.execTxReqAccept s
  | .txReqWait _ => Sys2Proof.Machine.execTxReqWait s
  | .txUnresolved _ => Sys2Proof.Machine.execTxUnresolved s
  | .txResolved _ => Sys2Proof.Machine.execTxResolved s
  | .txAwaitWait _ => Sys2Proof.Machine.execTxAwaitWait s
  | .txSendEop _ => Sys2Proof.Machine.execTxSendEop s
  | .txSendBeat _ => Sys2Proof.Machine.execTxSendBeat s
  | .txSendStall _ => Sys2Proof.Machine.execTxSendStall s
  | .txDropEop _ => Sys2Proof.Machine.execTxDropEop s
  | .txDropBeat _ => Sys2Proof.Machine.execTxDropBeat s
  | .txDropWait _ => Sys2Proof.Machine.execTxDropWait s
  | .txIllegal _ => Sys2Proof.Machine.execTxIllegal s
  | .rxStart _ => Sys2Proof.Machine.execRxStart s
  | .rxIdleWait _ => Sys2Proof.Machine.execRxIdleWait s
  | .rxAccept _ => Sys2Proof.Machine.execRxAccept s
  | .rxReject _ => Sys2Proof.Machine.execRxReject s
  | .rxCheckWait _ => Sys2Proof.Machine.execRxCheckWait s
  | .rxPresentEop _ => Sys2Proof.Machine.execRxPresentEop s
  | .rxPresentBeat _ => Sys2Proof.Machine.execRxPresentBeat s
  | .rxPresentStall _ => Sys2Proof.Machine.execRxPresentStall s
  | .rxDropEop _ => Sys2Proof.Machine.execRxDropEop s
  | .rxDropBeat _ => Sys2Proof.Machine.execRxDropBeat s
  | .rxDropWait _ => Sys2Proof.Machine.execRxDropWait s
  | .xbArbGrant _ => Sys2Proof.Machine.execXbArbGrant s
  | .xbArbIdle _ => Sys2Proof.Machine.execXbArbIdle s
  | .xbMuxEop _ => Sys2Proof.Machine.execXbMuxEop s
  | .xbMuxBeat _ => Sys2Proof.Machine.execXbMuxBeat s
  | .xbMuxStall _ => Sys2Proof.Machine.execXbMuxStall s
  | .xbDmxDeliver => Sys2Proof.Machine.execXbDmxDeliver s
  | .xbDmxStall => Sys2Proof.Machine.execXbDmxStall s
  | .xbDmxDiscard _ => Sys2Proof.Machine.execXbDmxDiscard s
  | .xbDmxIdle _ => Sys2Proof.Machine.execXbDmxIdle s
  | .xbRegisterDup => Sys2Proof.Machine.execXbRegisterDup s
  | .xbRegister => Sys2Proof.Machine.execXbRegister s
  | .reset => Sys2Proof.Machine.execReset s
  | .run => Sys2Proof.Machine.execRun s

end Sys2Proof.Machine
end

