-- ==== Sys2Proof/Machine/Fetch.lean ====
section
/-! DEFINITION. Which operation the next step performs: a registration while some are pending, else a clock cycle
(60_exceptions.md R384, 70_reset_and_hazards.md R411). -/

namespace Sys2Proof.Machine

/-- The operation a one-bit table chooses. The decoder rejects no word of such a table, so the error never arises. -/
def fetchFrom (t : Table) (s : State) : Except Fault Instr :=
  match decode (selWord s t) with
  | .ok i => .ok i
  | .error _ => .error .illegalConfiguration

/-- The next operation (R112, R411). While registrations are pending it is the next registration, chosen by `CFGSEL`.
After them it is a clock cycle, chosen by `TOPSEL`; that a reset cycle came first is not asked. R403 leaves unspecified what a cycle with
`rst = 0` before the first reset does; the model performs `RUN` on the registers as they stand: DESIGN CHOICE, unsafe for such a
cycle (log entry 16). A refused configuration has no further step (R376, R384), and a
configuration that is not well formed has no cycle (R6, R14). -/
def fetch (s : State) : Except Fault Instr :=
  if s.refused then .error .configurationRefused
  else if s.pending ≠ [] then fetchFrom .cfg s
  else if s.cfg.legal then fetchFrom .top s
  else .error .illegalConfiguration

end Sys2Proof.Machine
end

