-- ==== Sys2Proof/Machine/Place.lean ====
section
/-! DEFINITION. Making a state in which a unit forms a given select word in the next cycle. No program is stored in the
block, so an operation is made to run by setting the registers and the inputs its select word is formed from (log entry
11). A word whose bits no state forms together is replaced by one that the same row matches. -/

namespace Sys2Proof.Machine

/-- No registration is pending and the configuration stands, so the next step is a clock cycle. -/
def State.forTraffic (s : State) : State := { s with pending := [], refused := false }

/-- The next cycle has these inputs. -/
def State.withNext (s : State) (i : Inputs) : State := { s with inputs := i :: s.inputs }

/-- A counter value that makes `CK.done` as wanted, for a legal configuration. -/
def cntFor (c : Config) (u : CkInst) (done : Bool) : BitVec 4 := if done then BitVec.ofNat 4 (numBatches c u) else 0

/-- A protocol number that is not registered, if there is one. -/
def unregistered (c : Config) : Byte :=
  (((List.range 256).map (BitVec.ofNat 8)).find? (fun p => !c.proto.contains p)).getD 0

/-- A header whose version, header length and destination are valid, for a protocol number. -/
def validHeader (c : Config) (p : Byte) : Header :=
  put32 (putByte (putByte Header.zero 0 0x45) 9 p) 16 c.localIp

/-- User port 0 holds the grant. -/
def State.granted (s : State) : State := { s with arb := { grant := .ofPort s.cfg 0, busy := true } }

/-- The select word of a checksum engine, formed by `CK_RX` (its controls take three of the four values of
`{reset, ce}`). `CK_TX` never has both 0, so it holds with `done = 1` there. -/
def placeCk (u : CkInst) (g : CkSel) (s : State) : State :=
  match u with
  | .rx =>
    { s.forTraffic with
      ckRx := { s.ckRx with cnt := cntFor s.cfg .rx g.done }
      rx := { state := if g.reset then R_IDLE else if g.ce then R_CHECK else R_PRESENT } }.withNext {}
  | .tx =>
    { s.forTraffic with
      ckTx := { s.ckTx with cnt := cntFor s.cfg .tx (g.done || (!g.reset && !g.ce)) }
      fr := { s.fr with state := if g.reset then F_IDLE else F_HEADER, idx := 0 } }.withNext {}

/-- The framer's select word: `MO` is user port 0, `FRS.ready` is given by the transmit pipeline's state. -/
def placeFr (g : FrSel) (s : State) : State :=
  { s.forTraffic.granted with
    fr := { s.fr with state := g.state, idx := if g.last then 19 else 0 }
    tx := { s.tx with state := if g.frsReady then T_DROP else T_IDLE } }.withNext
      { utx := [{ valid := g.moValid, sop := g.moSop, eop := g.moEop }] }

/-- The extractor's select word: `EXS.ready` is given by the receive pipeline's state. -/
def placeEx (g : ExSel) (s : State) : State :=
  { s.forTraffic with
    ex := { s.ex with state := g.state, cnt := if g.last then 19 else 1 }
    rx := { state := if g.exsReady then R_DROP else R_IDLE } }.withNext
      { l2rx := { valid := g.l2rxValid, sop := g.l2rxSop, eop := g.l2rxEop } }

/-- The transmit pipeline's select word: the framer presents its first header byte, another header byte, a last payload
byte, or nothing. -/
def placeTx (g : TxSel) (s : State) : State :=
  let eop := g.frsEop && g.state != T_IDLE
  let fr : FrRegs :=
    if !g.frsValid then { s.fr with state := F_IDLE }
    else if eop then { s.fr with state := F_PAYLOAD }
    else { s.fr with state := F_HEADER, idx := if g.frsSop then 0 else 1 }
  { s.forTraffic.granted with
    tx := { s.tx with state := g.state }
    fr := fr
    ckTx := { s.ckTx with cnt := cntFor s.cfg .tx g.ckDone } }.withNext
      { utx := [{ valid := g.frsValid && eop, eop := eop }], arqReady := g.arqReady,
        ars := { valid := g.arsValid, failed := g.arsFailed }, l2txReady := g.l2txReady }

/-- The receive pipeline's select word: the extractor holds a header for user port 0 and passes payload. -/
def placeRx (g : RxSel) (s : State) : State :=
  { s.forTraffic with
    rx := { state := g.state }
    ex := { state := E_PAYLOAD, cnt := 19, first := g.exsSop, g := validHeader s.cfg (s.cfg.proto.getD 0 0) }
    ckRx := { acc := if g.hdrOk then 0xFFFF else 0x0000, cnt := cntFor s.cfg .rx g.ckDone } }.withNext
      { l2rx := { valid := g.exsValid, eop := g.exsEop }, urxReady := [g.rxoReady] }

/-- The multiplexer's select word: user port 0 holds the grant or requests, `MO.ready` is given by the framer. -/
def placeArb (g : ArbSel) (s : State) : State :=
  { s.forTraffic with
    arb := { grant := .ofPort s.cfg 0, busy := g.busy }
    fr := { s.fr with state := if g.moReady then F_PAYLOAD else F_HEADER, idx := 0 }
    tx := { s.tx with state := if g.moReady then T_DROP else T_IDLE } }.withNext
      { utx := [{ valid := if g.busy then g.moValid else g.anyReq, eop := g.moEop }] }

/-- The demultiplexer's select word: the receive pipeline presents a beat for user port 0 or for no port. -/
def placeDmx (g : DmxSel) (s : State) : State :=
  { s.forTraffic with
    rx := { state := R_PRESENT }
    ex :=
      { state := E_PAYLOAD, cnt := 19, first := true,
        g := validHeader s.cfg (if g.mOk then s.cfg.proto.getD 0 0 else unregistered s.cfg) } }.withNext
      { l2rx := { valid := g.rxoValid }, urxReady := [g.mReady] }

/-- The state in which the next step performs the operation a select word chooses. -/
def State.place (s : State) : SelWord → State
  | .ck u w => placeCk u (CkSel.unpack w) s
  | .fr w => placeFr (FrSel.unpack w) s
  | .ex w => placeEx (ExSel.unpack w) s
  | .tx w => placeTx (TxSel.unpack w) s
  | .rx w => placeRx (RxSel.unpack w) s
  | .arb w => placeArb (ArbSel.unpack w) s
  | .dmx w => placeDmx (DmxSel.unpack w) s
  | .cfg w => { s with pending := [if w == 1#1 then s.cfg.proto.getD 0 0 else unregistered s.cfg], refused := false }
  | .top w => s.forTraffic.withNext { rst := w == 1#1 }

end Sys2Proof.Machine
end

