-- ==== Sys2Proof/Machine/Step.lean ====
section
/-! DEFINITION. One step: a clock cycle, or a registration before the first cycle (00_scope.md R17, 70_reset_and_hazards.md
R411). -/

namespace Sys2Proof.Machine

/-- One step performs the next operation. It adds nothing around the operation: the block has no program counter (10_state.md
R21), and a cycle's inputs are consumed by `RUN` and `RESET` themselves. -/
def step (s : State) : Host.Outcome State Fault Refusal :=
  match fetch s with
  | .ok i => exec i s
  | .error f => .fault f

/-- The state in which the next step performs the operation of a bare word of the opcode table: a unit's operation is
performed by that unit in the next clock cycle (log entries 10 and 11). A word that is no select word changes nothing. -/
def State.withFetchWord (s : State) (nbits w : Nat) : State :=
  match selOfBareWord nbits w with
  | .ok sw => s.place sw
  | .error _ => s

end Sys2Proof.Machine
end

