-- ==== Sys2Proof/Machine/Stimulus.lean ====
section
/-! DEFINITION. The spec's stimulus notation (30_encoding.md R122, R123): beats of a packet, a frame, a response, and an
environment that holds each beat until it transfers. It is outside the block: `step` does not use it. -/

namespace Sys2Proof.Machine

/-- `pkt dst=D proto=P len=L data=b0..b(n-1)`: the beats of a submission (R123). -/
def pktBeats (dst : Ip) (proto : Byte) (len : Half) (data : List Byte) : List SubBeat :=
  (List.range data.length).map (fun i =>
    { valid := true, data := data.getD i 0, sop := i == 0, eop := i + 1 == data.length, dstIp := dst,
      protocol := proto, length := len })

/-- `frame data=b0..b(n-1) err=E`: the beats of a received frame (R123). -/
def frameBeats (data : List Byte) (err : List Nat) : List RawBeat :=
  (List.range data.length).map (fun i =>
    { valid := true, data := data.getD i 0, sop := i == 0, eop := i + 1 == data.length, error := err.contains i })

/-- `ars ok mac=M` (R123). -/
def arsOk (m : Mac) : ArsMsg := { valid := true, mac := m, failed := false }

/-- `ars fail` (R123). -/
def arsFail : ArsMsg := { valid := true, mac := 0, failed := true }

/-- `ready <port> always | never | pattern=<bits>` (R122). A pattern is read one bit per cycle from cycle 0 and repeats:
DESIGN CHOICE (log entry 12). -/
inductive ReadyRule where
  | always
  | never
  | pattern (bits : List Bool)
  deriving DecidableEq, Repr

/-- The ready of a rule in a cycle. -/
def ReadyRule.at (r : ReadyRule) (cycle : Nat) : Bool :=
  match r with
  | .always => true
  | .never => false
  | .pattern bits => bits.getD (cycle % bits.length) false

/-- A stimulus script: what the environment still has to present, each beat with the first cycle it may be presented in. -/
structure Script where
  /-- The cycles in which `rst = 1`. -/
  rstIn : List Nat
  utx : List (List (Nat × SubBeat))
  l2rx : List (Nat × RawBeat)
  /-- The resolver's responses, in order. -/
  ars : List ArsMsg
  /-- Accepted requests not yet answered. -/
  due : Nat
  l2txReady : ReadyRule
  arqReady : ReadyRule
  urxReady : List ReadyRule
  deriving DecidableEq, Repr

/-- The beat at the head of a queue, once its cycle has come. -/
def headBeat {α : Type} (none : α) (cycle : Nat) : List (Nat × α) → α
  | (c, b) :: _ => if c ≤ cycle then b else none
  | [] => none

/-- The inputs of a cycle. -/
def Script.inputs (sc : Script) (cycle : Nat) : Inputs where
  rst := sc.rstIn.contains cycle
  utx := sc.utx.map (headBeat {} cycle)
  urxReady := sc.urxReady.map (fun r => r.at cycle)
  l2txReady := sc.l2txReady.at cycle
  l2rx := headBeat {} cycle sc.l2rx
  arqReady := sc.arqReady.at cycle
  ars := if sc.due = 0 then {} else sc.ars.headD {}

/-- Drop the head of a queue when its beat transferred. -/
def popIf {α : Type} (moved : Bool) (q : List α) : List α := if moved then q.tail else q

/-- The script after a cycle: each beat that transferred is gone, a request that transferred is due an answer. In a reset cycle nothing
transfers (70_reset_and_hazards.md R402), so `due` and every queue stay; R122 and R123 do not say whether a `reset` line clears them:
DESIGN CHOICE (log entry 17). -/
def Script.after (sc : Script) (i : Inputs) (o : Outputs) : Script :=
  { sc with
    utx := sc.utx.mapIdx (fun k q => popIf (xfer (i.utx.getD k {}).valid (o.mux.utxReady.getD k false)) q)
    l2rx := popIf (xfer i.l2rx.valid o.ex.l2rxReady) sc.l2rx
    ars := popIf (xfer i.ars.valid o.tx.arsReady) sc.ars
    due := sc.due + (if xfer o.tx.arq.valid i.arqReady then 1 else 0)
      - (if xfer i.ars.valid o.tx.arsReady then 1 else 0) }

/-- One cycle of the block with the script's environment; `none` when the machine stops. -/
def playCycle (sc : Script) (s : State) : Option (Script × State) :=
  let i := sc.inputs s.cycle
  match step { s with inputs := [i] } with
  | .next t => some (sc.after i t.out, t)
  | _ => none

/-- `run <cycles>` (R122): the states after each cycle. -/
def play : Nat → Script → State → List State
  | 0, _, _ => []
  | n + 1, sc, s =>
    match playCycle sc s with
    | some (sc', t) => t :: play n sc' t
    | none => []

end Sys2Proof.Machine
end

