-- ==== Sys2Proof/Safety.lean ====
section
/-! DEFINITION. What counts as a safe state and a well-behaved environment, in the terms the statements use: register
ranges, the coupling invariants (70_reset_and_hazards.md R413), the checksum invariant (41_checksum.md R144, R145), and the
duties of the environment (R404 to R408). -/

namespace Sys2Proof.Safety

open Sys2Proof.Machine

/-- A unit's select word, formed from the state and the inputs of the cycle, chooses an operation (30_encoding.md R113). -/
def Selects (s : State) (t : Table) (i : Instr) : Prop := decode (selWord s t) = .ok i

/-- The next step is a clock cycle with `rst = 0`, for a configuration that stands (R351, R411). -/
structure Running (s : State) : Prop where
  built : s.pending = []
  stands : s.refused = false
  legal : s.cfg.legal = true
  notReset : s.curIn.rst = false

/-- Every register is in the range its rule gives it (10_state.md R24 to R37), `H[10..11]` is zero (R27), and the registry
has no repeated entry (46_crossbar.md R301). While no port is registered the grant is 0. -/
structure InRange (s : State) : Prop where
  ckTx : s.ckTx.cnt.toNat ≤ numBatches s.cfg .tx
  ckRx : s.ckRx.cnt.toNat ≤ numBatches s.cfg .rx
  frState : s.fr.state ≠ 0b11#2
  frIdx : s.fr.idx.toNat ≤ 19
  frChecksum : be16 s.fr.h 10 = 0
  exState : s.ex.state ≠ 0b11#2
  exCnt : s.ex.state = E_HEADER → 1 ≤ s.ex.cnt.toNat ∧ s.ex.cnt.toNat ≤ 19
  txState : s.tx.state.toNat ≤ 4
  grantBits : s.arb.grant.width = grantWidth s.cfg
  grant : s.arb.grant.index < s.cfg.nports ∨ (s.cfg.nports = 0 ∧ s.arb.grant.index = 0)
  registry : s.cfg.proto.Nodup

/-- The coupling invariants of R413: its items 1 to 4 and the second half of item 5. `txChecked` extends item 2 to the states
after the resolution: the checksum stays done until the framer is idle again (41_checksum.md R139, 44_tx_pipeline.md R221). -/
structure Coupled (s : State) : Prop where
  frIdle : s.fr.state = F_IDLE → s.tx.state = T_IDLE
  resolving : s.tx.state = T_REQUEST ∨ s.tx.state = T_AWAIT →
    s.fr.state = F_HEADER ∧ s.fr.idx = 0 ∧ ckDone s .tx = true
  txChecked : s.tx.state ≠ T_IDLE → ckDone s .tx = true
  exBuffering : s.ex.state = E_IDLE ∨ s.ex.state = E_HEADER → s.rx.state = R_IDLE
  frBusy : s.fr.state ≠ F_IDLE → s.arb.busy = true
  rxChecked : s.rx.state = R_PRESENT ∨ s.rx.state = R_DROP → ckDone s .rx = true

/-- A state whose registers are in range and coupled as every cycle from reset leaves them. -/
structure Sound (s : State) : Prop where
  inRange : InRange s
  coupled : Coupled s

/-- The words an instance has folded after `k` batches: the first `k*WPC` of its word list (41_checksum.md R133). -/
def foldedWords (c : Config) (u : CkInst) (k : Nat) : List (Fin 10) := (wordList u).take (k * c.wpc)

/-- While a packet is in a pipeline, its engine's accumulator is the fold of the words counted so far, over the header the
register holds (R144, R145). -/
structure ChecksumTracks (s : State) : Prop where
  tx : s.fr.state ≠ F_IDLE →
    s.ckTx.acc = foldSum ((foldedWords s.cfg .tx s.ckTx.cnt.toNat).map (headerWord s.fr.h))
  rx : s.rx.state ≠ R_IDLE →
    s.ckRx.acc = foldSum ((foldedWords s.cfg .rx s.ckRx.cnt.toNat).map (headerWord s.ex.g))

/-- Two states agree on everything but values that no operation reads before it writes them (10_state.md R42, 60_exceptions.md
R381; log entry 18): the framer's header and index while it is idle, the header bytes the extractor has not stored yet, its
counter outside `E_HEADER`, `req_ip` outside `T_REQUEST` and `mac` outside `T_SEND`. -/
structure SameButUnread (s t : State) : Prop where
  cfg : s.cfg = t.cfg
  pending : s.pending = t.pending
  refused : s.refused = t.refused
  inputs : s.inputs = t.inputs
  cycle : s.cycle = t.cycle
  ckTx : s.ckTx = t.ckTx
  ckRx : s.ckRx = t.ckRx
  frState : s.fr.state = t.fr.state
  fr : s.fr.state ≠ F_IDLE → s.fr = t.fr
  exState : s.ex.state = t.ex.state
  exFirst : s.ex.first = t.ex.first
  exCnt : s.ex.state = E_HEADER → s.ex.cnt = t.ex.cnt
  exStored : s.ex.state = E_HEADER → ∀ (i : Nat) (h : i < 20), i < s.ex.cnt.toNat → s.ex.g[i] = t.ex.g[i]
  exHeader : s.ex.state = E_PAYLOAD → s.ex.g = t.ex.g
  txState : s.tx.state = t.tx.state
  reqIp : s.tx.state = T_REQUEST → s.tx.reqIp = t.tx.reqIp
  mac : s.tx.state = T_SEND → s.tx.mac = t.tx.mac
  rx : s.rx = t.rx
  arb : s.arb = t.arb

/-! The two paths of the block (47_top_level.md R347): what each one holds, reads and drives. -/

/-- Two states agree on the configuration, on the transmit path's registers and on the inputs it reads. -/
structure TransmitAgree (s t : State) : Prop where
  cfg : s.cfg = t.cfg
  ckTx : s.ckTx = t.ckTx
  fr : s.fr = t.fr
  tx : s.tx = t.tx
  arb : s.arb = t.arb
  rst : s.curIn.rst = t.curIn.rst
  utx : s.curIn.utx = t.curIn.utx
  l2txReady : s.curIn.l2txReady = t.curIn.l2txReady
  arqReady : s.curIn.arqReady = t.curIn.arqReady
  ars : s.curIn.ars = t.curIn.ars

/-- Two states agree on the configuration, on the receive path's registers and on the inputs it reads. -/
structure ReceiveAgree (s t : State) : Prop where
  cfg : s.cfg = t.cfg
  ckRx : s.ckRx = t.ckRx
  ex : s.ex = t.ex
  rx : s.rx = t.rx
  rst : s.curIn.rst = t.curIn.rst
  l2rx : s.curIn.l2rx = t.curIn.l2rx
  urxReady : s.curIn.urxReady = t.curIn.urxReady

/-- Whether a unit belongs to the transmit path. -/
def onTransmitPath : UnitName → Bool
  | .CK_TX | .FR | .TXP | .MUX => true
  | .CK_RX | .EX | .RXP | .DMX | .CFG => false

/-- Whether a unit belongs to the receive path. -/
def onReceivePath : UnitName → Bool
  | .CK_RX | .EX | .RXP | .DMX => true
  | .CK_TX | .FR | .TXP | .MUX | .CFG => false

/-! What is observable of a performed cycle: `seen` and `out` together (47_top_level.md R352). -/

/-- The `unreachable` output of the last cycle performed. -/
def sawUnreachable (s : State) : Bool := s.out.tx.unreachable

/-- The beat that transferred on `L2TX` in the last cycle performed, if one did. -/
def sentBeat (s : State) : Option FrameBeat :=
  if xfer s.out.tx.l2tx.valid s.seen.l2txReady then some s.out.tx.l2tx else none

/-- The beat that transferred on `URX[k]` in the last cycle performed, if one did. -/
def deliveredBeat (s : State) (k : Nat) : Option DelBeat :=
  let b := s.out.dmx.urx.getD k {}
  if xfer b.valid (s.seen.urxReady.getD k false) then some b else none

/-! The environment's duties, on two consecutive performed cycles or on a stream. -/

/-- Hold until transfer (R404), between a cycle that led to `s` and the next one, that led to `t`: a beat on `UTX[k]`, `L2RX`
or `ARS` that did not transfer is presented again unchanged. -/
def holdsUntilTransfer (s t : State) : Bool :=
  (List.range s.cfg.nports).all (fun k =>
    !(s.seen.utx.getD k {}).valid || s.out.mux.utxReady.getD k false
      || t.seen.utx.getD k {} == s.seen.utx.getD k {})
  && (!s.seen.l2rx.valid || s.out.ex.l2rxReady || t.seen.l2rx == s.seen.l2rx)
  && (!s.seen.ars.valid || s.out.tx.arsReady || t.seen.ars == s.seen.ars)

/-- A stream of whole packets (R408, 20_memory.md R68), from its beats' markers `(sop, eop)`: `inside` says whether a packet is
open. -/
def wholePackets : Bool → List (Bool × Bool) → Bool
  | inside, [] => !inside
  | inside, (sop, eop) :: bs => (sop != inside) && wholePackets (!eop) bs

/-- The resolver answers only requests (R406 items 1 and 2): along the cycles, each given as (a request transferred, a response
is presented, the response transferred), no response is presented with no request due. -/
def answersOnlyRequests : Nat → List (Bool × Bool × Bool) → Bool
  | _, [] => true
  | due, (asked, presented, taken) :: cs =>
    (!presented || decide (0 < due))
      && answersOnlyRequests (due + (if asked then 1 else 0) - (if taken then 1 else 0)) cs

end Sys2Proof.Safety
end

