-- ==== Sys2Proof/Certificates/Slice0/Obligations.lean ====
section
/-! DEFINITION. The statements. The numbers R<n> are the rules of spec/ they say in Lean. In a statement of one operation, `Selects`
says when the unit's table chooses it (its Operands and Encoding lines), and the state equation says every register it
writes, what its unit drives in that cycle, the event it records, and that nothing else changes. -/

section

open Sys2Proof Sys2Proof.Machine Sys2Proof.Safety

/-! Encoding. -/

/-- R106 to R120: decoding the select word of a well-formed operation gives the operation back, with every field it carries. -/
def Obligations.DecodeInvertsEncode : Prop :=
  ∀ i : Instr, i.wellFormed = true → decode (encode i) = .ok i

/-- R113: every bit pattern of every select word is decoded, to an operation whose Operands conditions the word's fields meet and
whose encoding is that very word. -/
def Obligations.EveryWordIsOneOperation : Prop :=
  ∀ w : SelWord, ∃ i, decode w = .ok i ∧ i.wellFormed = true ∧ encode i = w

/-- R114 to R120: words written out from the rows decode to the row's operation. -/
def Obligations.SpecWordsDecode : Prop :=
  decode (.ck .rx 0b010#3) = .ok (.ckAccum .rx) ∧
  decode (.fr 0b0001100#7) = .ok (.frLoad ⟨0b00#2, false, true, true, false, false⟩) ∧
  decode (.ex 0b0111000#7) = .ok (.exHdrLast ⟨0b01#2, true, true, false, false, false⟩) ∧
  decode (.tx 0b01000000110#11) = .ok (.txUnresolved ⟨0b010#3, false, false, false, false, false, true, true, false⟩) ∧
  decode (.rx 0b01000110#8) = .ok (.rxAccept ⟨0b01#2, false, false, false, true, true, false⟩) ∧
  decode (.arb 0b10111#5) = .ok (.xbMuxEop ⟨true, false, true, true, true⟩) ∧
  decode (.dmx 0b110#3) = .ok .xbDmxStall ∧
  decode (.cfg 1#1) = .ok .xbRegisterDup ∧
  decode (.top 0#1) = .ok .run

/-! The step. -/

/-- R112, R384, R411: a step is `exec` of the operation that the select word of the phase chooses; a refused configuration and
one that is not legal take no step. -/
def Obligations.StepRunsTheSelectedOperation : Prop :=
  ∀ s : State,
    (∀ i, s.refused = false → s.pending ≠ [] → Selects s .cfg i → step s = exec i s) ∧
    (∀ i, s.refused = false → s.pending = [] → s.cfg.legal = true → Selects s .top i → step s = exec i s) ∧
    Selects s .cfg (if isDup s then .xbRegisterDup else .xbRegister) ∧
    Selects s .top (if s.curIn.rst then .reset else .run) ∧
    (s.refused = true → step s = .fault .configurationRefused) ∧
    (s.refused = false → s.pending = [] → s.cfg.legal = false → step s = .fault .illegalConfiguration)

/-! Checksum engines. -/

/-- R136, R138 with the controls of R139 and R140: `CK_RESET` clears an instance, `CK_HOLD` keeps it. -/
def Obligations.ChecksumClearsAndHolds : Prop :=
  ∀ s : State,
    (s.fr.state = F_IDLE →
      Selects s (.ck .tx) (.ckReset .tx (ckSel s .tx)) ∧
      ∀ g, exec (.ckReset .tx g) s = .next { s with
        ckTx := { acc := 0x0000, cnt := 0 }
        out := { s.out with ckTx := { value := ~~~ s.ckTx.acc, done := s.ckTx.cnt.toNat == numBatches s.cfg .tx } } }) ∧
    (s.rx.state = R_IDLE →
      Selects s (.ck .rx) (.ckReset .rx (ckSel s .rx)) ∧
      ∀ g, exec (.ckReset .rx g) s = .next { s with
        ckRx := { acc := 0x0000, cnt := 0 }
        out := { s.out with ckRx := { value := ~~~ s.ckRx.acc, done := s.ckRx.cnt.toNat == numBatches s.cfg .rx } } }) ∧
    (s.fr.state ≠ F_IDLE → s.ckTx.cnt.toNat = numBatches s.cfg .tx →
      Selects s (.ck .tx) (.ckHold .tx (ckSel s .tx)) ∧
      ∀ g, exec (.ckHold .tx g) s = .next { s with
        out := { s.out with ckTx := { value := ~~~ s.ckTx.acc, done := true } } }) ∧
    (s.rx.state ≠ R_IDLE → s.rx.state ≠ R_CHECK ∨ s.ckRx.cnt.toNat = numBatches s.cfg .rx →
      Selects s (.ck .rx) (.ckHold .rx (ckSel s .rx)) ∧
      ∀ g, exec (.ckHold .rx g) s = .next { s with
        out := { s.out with ckRx := { value := ~~~ s.ckRx.acc, done := s.ckRx.cnt.toNat == numBatches s.cfg .rx } } })

/-- R137: `CK_ACCUM` folds the words of batch `CK.cnt` of the instance's header into the accumulator, in list order, and counts. -/
def Obligations.ChecksumFoldsOneBatch : Prop :=
  ∀ s : State,
    (s.fr.state ≠ F_IDLE → s.ckTx.cnt.toNat < numBatches s.cfg .tx →
      Selects s (.ck .tx) (.ckAccum .tx) ∧
      exec (.ckAccum .tx) s = .next { s with
        ckTx :=
          { acc := ((batch s.cfg .tx s.ckTx.cnt.toNat).map (headerWord s.fr.h)).foldl foldAdd s.ckTx.acc
            cnt := s.ckTx.cnt + 1 }
        out := { s.out with ckTx := { value := ~~~ s.ckTx.acc, done := false } } }) ∧
    (s.rx.state = R_CHECK → s.ckRx.cnt.toNat < numBatches s.cfg .rx →
      Selects s (.ck .rx) (.ckAccum .rx) ∧
      exec (.ckAccum .rx) s = .next { s with
        ckRx :=
          { acc := ((batch s.cfg .rx s.ckRx.cnt.toNat).map (headerWord s.ex.g)).foldl foldAdd s.ckRx.acc
            cnt := s.ckRx.cnt + 1 }
        out := { s.out with ckRx := { value := ~~~ s.ckRx.acc, done := false } } })

/-- R130: `FOLDADD` is the 17-bit sum with its carry bit added to its low 16 bits, which never wraps; its corner cases. -/
def Obligations.FoldAddBringsTheCarryBack : Prop :=
  (∀ a b : Half,
    (foldAdd a b).toNat = (a.toNat + b.toNat) % 2 ^ 16 + (a.toNat + b.toNat) / 2 ^ 16 ∧
    foldAdd a b = (a.zeroExtend 17 + b.zeroExtend 17).extractLsb' 0 16
      + ((a.zeroExtend 17 + b.zeroExtend 17).extractLsb' 16 1).zeroExtend 16) ∧
  foldAdd 0xFFFF 0xFFFF = 0xFFFF ∧ foldAdd 0xFFFF 0x0001 = 0x0001 ∧ foldAdd 0x8000 0x8000 = 0x0001 ∧
  foldAdd 0x0000 0x0000 = 0x0000 ∧ foldAdd 0xFFFF 0x0000 = 0xFFFF ∧ foldAdd 0x1234 0xF00D = 0x0242

/-- R131: the closed form of `FOLDSUM`, its independence of order and grouping, `CKSUM`, and when `CKSUM(X, 0)` is zero. -/
def Obligations.FoldSumClosedForm : Prop :=
  (∀ ws : List Half,
    foldSum ws = ws.foldl foldAdd 0x0000 ∧
    ((ws.map BitVec.toNat).sum = 0 → foldSum ws = 0x0000) ∧
    ((ws.map BitVec.toNat).sum ≠ 0 → (foldSum ws).toNat = ((ws.map BitVec.toNat).sum - 1) % 0xFFFF + 1)) ∧
  (∀ ws vs : List Half, ws.Perm vs → foldSum ws = foldSum vs) ∧
  (∀ ws vs : List Half, foldSum (ws ++ vs) = foldAdd (foldSum ws) (foldSum vs)) ∧
  (∀ (X : Header) (u : CkInst), cksum X u = ~~~ foldSum ((wordList u).map (headerWord X))) ∧
  (∀ X : Header, cksum X .rx = 0x0000 ↔
    0 < ((wordList .rx).map (fun j => (headerWord X j).toNat)).sum ∧
    ((wordList .rx).map (fun j => (headerWord X j).toNat)).sum % 0xFFFF = 0)

/-- R132, R133: the two word lists, the batch counts for every `WPC`, and the batches, which together are the list. -/
def Obligations.BatchesCutTheWordList : Prop :=
  wordList .rx = [0, 1, 2, 3, 4, 5, 6, 7, 8, 9] ∧ wordList .tx = [0, 1, 2, 3, 4, 6, 7, 8, 9] ∧
  ∀ c : Config, 1 ≤ c.wpc → c.wpc ≤ 10 →
    numBatches c .tx = [9, 5, 3, 3, 2, 2, 2, 2, 1, 1].getD (c.wpc - 1) 0 ∧
    numBatches c .rx = [10, 5, 4, 3, 2, 2, 2, 2, 2, 1].getD (c.wpc - 1) 0 ∧
    ∀ u : CkInst,
      (wordList u).length ≤ numBatches c u * c.wpc ∧ (numBatches c u - 1) * c.wpc < (wordList u).length ∧
      (∀ k, k < numBatches c u →
        batch c u k = ((wordList u).take (min ((k + 1) * c.wpc) (wordList u).length)).drop (k * c.wpc)) ∧
      (List.range (numBatches c u)).flatMap (batch c u) = wordList u

/-- R144, R145: at `done`, the accumulator is the fold of the whole word list and `value` is `CKSUM` of the header, for every
legal `WPC`. The premise is the invariant of `ChecksumTracksIsKept`. -/
def Obligations.ValueAtDoneIsTheChecksum : Prop :=
  ∀ s : State, s.cfg.legal = true → ChecksumTracks s →
    (s.fr.state ≠ F_IDLE → ckDone s .tx = true →
      s.ckTx.acc = foldSum ((wordList .tx).map (headerWord s.fr.h)) ∧ ckValue s .tx = cksum s.fr.h .tx) ∧
    (s.rx.state ≠ R_IDLE → ckDone s .rx = true →
      s.ckRx.acc = foldSum ((wordList .rx).map (headerWord s.ex.g)) ∧ ckValue s .rx = cksum s.ex.g .rx)

/-- R141: skipping word 5 is zeroing it, so the transmit checksum does not depend on bytes 10 and 11, which the packing
function leaves 0x00. -/
def Obligations.SkippingAWordIsZeroingIt : Prop :=
  (∀ X : Header,
    foldSum ((wordList .tx).map (headerWord X)) = foldSum ((wordList .rx).map (headerWord (put16 X 10 0x0000)))) ∧
  (∀ (X : Header) (v : Half), cksum (put16 X 10 v) .tx = cksum X .tx) ∧
  (∀ (c : Config) (dst : Ip) (p : Byte) (len : Half), be16 (assemble c dst p len) 10 = 0x0000)

/-- R142: a header with its checksum inserted verifies, and so does every header the framer emits after `done`. -/
def Obligations.InsertedChecksumVerifies : Prop :=
  (∀ X : Header, cksum (put16 X 10 (cksum X .tx)) .rx = 0x0000) ∧
  (∀ (s : State) (X : Header), s.cfg.legal = true → ChecksumTracks s → s.fr.state ≠ F_IDLE → ckDone s .tx = true →
    (∀ (i : Nat) (h : i < 20), X[i] = headerByte s i h) → cksum X .rx = 0x0000)

/-- R143: a header that differs from a verifying one in exactly one bit does not verify, and `RX_REJECT` drops it. -/
def Obligations.SingleBitErrorIsDetected : Prop :=
  ∀ (X : Header) (i : Fin 20) (b : Fin 8), cksum X .rx = 0x0000 →
    cksum (X.set i (X[i] ^^^ (1#8 <<< b.val))) .rx ≠ 0x0000 ∧
    ∀ s : State, s.rx.state = R_CHECK → ckDone s .rx = true →
      s.ex.g = X.set i (X[i] ^^^ (1#8 <<< b.val)) →
      s.ckRx.acc = foldSum ((wordList .rx).map (headerWord s.ex.g)) →
      Selects s .rx (.rxReject (rxSel s))

/-! Illegal states. -/

/-- R172, R203, R234 with the second choice of R380, which is the model's (log entry 3): a unit whose state register holds an unused
code keeps its registers, drives 0, and records `IllegalState`. -/
def Obligations.UnusedStateCodesHold : Prop :=
  ∀ s : State,
    (s.fr.state = 0b11#2 →
      Selects s .fr (.frIllegal (frSel s)) ∧
      ∀ g, exec (.frIllegal g) s = .next { s with
        out := { s.out with fr := {} }, events := s.events ++ [⟨.illegalState, .FR, s.cycle⟩] }) ∧
    (s.ex.state = 0b11#2 →
      Selects s .ex (.exIllegal (exSel s)) ∧
      ∀ g, exec (.exIllegal g) s = .next { s with
        out := { s.out with ex := {} }, events := s.events ++ [⟨.illegalState, .EX, s.cycle⟩] }) ∧
    (s.tx.state = 0b101#3 ∨ s.tx.state = 0b110#3 ∨ s.tx.state = 0b111#3 →
      Selects s .tx (.txIllegal (txSel s)) ∧
      ∀ g, exec (.txIllegal g) s = .next { s with
        out := { s.out with tx := {} }, events := s.events ++ [⟨.illegalState, .TXP, s.cycle⟩] })

/-- R121 with the choice it leaves to a model (log entry 4): a counter outside its range is treated as `IllegalState`. -/
def Obligations.CountersOutOfRangeHold : Prop :=
  ∀ s : State,
    (s.fr.state ≠ F_IDLE → numBatches s.cfg .tx < s.ckTx.cnt.toNat →
      Selects s (.ck .tx) (.ckAccum .tx) ∧
      exec (.ckAccum .tx) s = .next { s with
        out := { s.out with ckTx := { value := ~~~ s.ckTx.acc, done := false } }
        events := s.events ++ [⟨.illegalState, .CK_TX, s.cycle⟩] }) ∧
    (s.rx.state = R_CHECK → numBatches s.cfg .rx < s.ckRx.cnt.toNat →
      Selects s (.ck .rx) (.ckAccum .rx) ∧
      exec (.ckAccum .rx) s = .next { s with
        out := { s.out with ckRx := { value := ~~~ s.ckRx.acc, done := false } }
        events := s.events ++ [⟨.illegalState, .CK_RX, s.cycle⟩] }) ∧
    (s.fr.state = F_HEADER → 20 ≤ s.fr.idx.toNat →
      Selects s .fr (if frsReady s then .frHdr (frSel s) else .frHdrStall (frSel s)) ∧
      ∀ i g, i = .frHdr g ∨ i = .frHdrStall g → exec i s = .next { s with
        out := { s.out with fr := {} }, events := s.events ++ [⟨.illegalState, .FR, s.cycle⟩] }) ∧
    (s.ex.state = E_HEADER → s.ex.cnt.toNat = 0 ∨ 20 ≤ s.ex.cnt.toNat →
      Selects s .ex
        (if s.curIn.l2rx.valid then if s.curIn.l2rx.eop then .exHdrRunt (exSel s) else .exHdr (exSel s)
          else .exHdrWait (exSel s)) ∧
      ∀ i g, i = .exHdrRunt g ∨ i = .exHdr g ∨ i = .exHdrWait g → exec i s = .next { s with
        out := { s.out with ex := {} }, events := s.events ++ [⟨.illegalState, .EX, s.cycle⟩] })

/-! Framer. -/

/-- R160: the twenty bytes of the assembled header. -/
def Obligations.AssembledHeaderBytes : Prop :=
  ∀ (c : Config) (dst : Ip) (p : Byte) (len : Half),
    (assemble c dst p len).toList =
      [0x45, 0x00, (len + 20).extractLsb' 8 8, (len + 20).extractLsb' 0 8, 0x00, 0x00, 0x00, 0x00, c.ttlDefault, p,
       0x00, 0x00, c.localIp.extractLsb' 24 8, c.localIp.extractLsb' 16 8, c.localIp.extractLsb' 8 8,
       c.localIp.extractLsb' 0 8, dst.extractLsb' 24 8, dst.extractLsb' 16 8, dst.extractLsb' 8 8, dst.extractLsb' 0 8]

/-- R161, R162: the byte at each header offset, and what the framer drives in each state. -/
def Obligations.FramerOutputs : Prop :=
  ∀ s : State,
    (∀ (i : Nat) (h : i < 20), headerByte s i h =
      if i = 10 then (~~~ s.ckTx.acc).extractLsb' 8 8 else if i = 11 then (~~~ s.ckTx.acc).extractLsb' 0 8 else s.fr.h[i]) ∧
    (s.fr.state = F_IDLE → frOut s = { moReady := !(mo s).sop, frs := {} }) ∧
    (s.fr.state = F_HEADER → ∀ h : s.fr.idx.toNat < 20, frOut s =
      { moReady := false,
        frs := { valid := true, data := headerByte s s.fr.idx.toNat h, sop := s.fr.idx == 0, eop := false } }) ∧
    (s.fr.state = F_PAYLOAD →
      frOut s =
        { moReady := frsReady s,
          frs := if (mo s).valid then { valid := true, data := (mo s).data, sop := false, eop := (mo s).eop } else {} } ∧
      xfer (mo s).valid (frOut s).moReady = xfer (frOut s).frs.valid (frsReady s)) ∧
    (s.fr.state = 0b11#2 → frOut s = {})

/-- R163: `FR_LOAD` latches the submission's header; the sop beat is not consumed. -/
def Obligations.FramerLoadsTheHeader : Prop :=
  ∀ s : State, s.fr.state = F_IDLE → (mo s).valid = true → (mo s).sop = true →
    Selects s .fr (.frLoad (frSel s)) ∧
    ∀ g, exec (.frLoad g) s = .next { s with
      fr := { state := F_HEADER, idx := 0, h := assemble s.cfg (mo s).dstIp (mo s).protocol (mo s).length }
      out := { s.out with fr := { moReady := false, frs := {} } } }

/-- R164, R165: an idle framer discards a beat that does not start a packet, as `StrayBeat`, or waits. -/
def Obligations.FramerIdles : Prop :=
  ∀ s : State, s.fr.state = F_IDLE →
    ((mo s).valid = true → (mo s).sop = false →
      Selects s .fr (.frSkip (frSel s)) ∧
      ∀ g, exec (.frSkip g) s = .next { s with
        out := { s.out with fr := { moReady := true, frs := {} } }
        events := s.events ++ [⟨.strayBeat, .FR, s.cycle⟩] }) ∧
    ((mo s).valid = false →
      Selects s .fr (.frIdleWait (frSel s)) ∧
      ∀ g, exec (.frIdleWait g) s = .next { s with out := { s.out with fr := { moReady := !(mo s).sop, frs := {} } } })

/-- R166 to R168: in `F_HEADER` the framer emits the header byte `fr_idx`, holds it, or emits byte 19 and enters `F_PAYLOAD`. -/
def Obligations.FramerEmitsTheHeader : Prop :=
  ∀ s : State, s.fr.state = F_HEADER →
    (∀ h : s.fr.idx.toNat < 19, frsReady s = true →
      Selects s .fr (.frHdr (frSel s)) ∧
      ∀ g, exec (.frHdr g) s = .next { s with
        fr := { s.fr with idx := s.fr.idx + 1 }
        out := { s.out with fr :=
          { moReady := false,
            frs := { valid := true, data := headerByte s s.fr.idx.toNat (Nat.lt_succ_of_lt h), sop := s.fr.idx == 0,
                     eop := false } } } }) ∧
    (s.fr.idx = 19 → frsReady s = true →
      Selects s .fr (.frHdrLast (frSel s)) ∧
      ∀ g, exec (.frHdrLast g) s = .next { s with
        fr := { s.fr with state := F_PAYLOAD }
        out := { s.out with fr :=
          { moReady := false, frs := { valid := true, data := s.fr.h[19], sop := false, eop := false } } } }) ∧
    (∀ h : s.fr.idx.toNat < 20, frsReady s = false →
      Selects s .fr (.frHdrStall (frSel s)) ∧
      ∀ g, exec (.frHdrStall g) s = .next { s with
        out := { s.out with fr :=
          { moReady := false,
            frs := { valid := true, data := headerByte s s.fr.idx.toNat h, sop := s.fr.idx == 0, eop := false } } } })

/-- R169 to R171: in `F_PAYLOAD` a payload byte passes in the cycle it enters, the last one returns the framer to idle, and
without a byte or without readiness nothing moves. -/
def Obligations.FramerPassesThePayload : Prop :=
  ∀ s : State, s.fr.state = F_PAYLOAD →
    ((mo s).valid = true → (mo s).eop = false → frsReady s = true →
      Selects s .fr (.frPay (frSel s)) ∧
      ∀ g, exec (.frPay g) s = .next { s with
        out := { s.out with fr :=
          { moReady := true, frs := { valid := true, data := (mo s).data, sop := false, eop := false } } } }) ∧
    ((mo s).valid = true → (mo s).eop = true → frsReady s = true →
      Selects s .fr (.frPayEop (frSel s)) ∧
      ∀ g, exec (.frPayEop g) s = .next { s with
        fr := { s.fr with state := F_IDLE }
        out := { s.out with fr :=
          { moReady := true, frs := { valid := true, data := (mo s).data, sop := false, eop := true } } } }) ∧
    ((mo s).valid = false ∨ frsReady s = false →
      Selects s .fr (.frPayStall (frSel s)) ∧
      ∀ g, exec (.frPayStall g) s = .next { s with
        out := { s.out with fr :=
          { moReady := frsReady s,
            frs := if (mo s).valid then { valid := true, data := (mo s).data, sop := false, eop := (mo s).eop }
              else {} } } })

/-! Extractor. -/

/-- R160 with R190: the fields the extractor decodes from an assembled header are the ones that were packed. -/
def Obligations.UnpackingInvertsPacking : Prop :=
  ∀ (c : Config) (dst : Ip) (p : Byte) (len : Half),
    version (assemble c dst p len) = 4 ∧ ihl (assemble c dst p len) = 5 ∧
    totalLength (assemble c dst p len) = len + 20 ∧ identification (assemble c dst p len) = 0 ∧
    ttl (assemble c dst p len) = c.ttlDefault ∧ protocol (assemble c dst p len) = p ∧
    checksumField (assemble c dst p len) = 0 ∧ srcIp (assemble c dst p len) = c.localIp ∧
    dstIp (assemble c dst p len) = dst

/-- R191: what the extractor drives in each state. -/
def Obligations.ExtractorOutputs : Prop :=
  ∀ s : State,
    (s.ex.state = E_IDLE → exOut s = { l2rxReady := true, exs := {} }) ∧
    (s.ex.state = E_HEADER → 1 ≤ s.ex.cnt.toNat → s.ex.cnt.toNat ≤ 19 → exOut s = { l2rxReady := true, exs := {} }) ∧
    (s.ex.state = E_PAYLOAD →
      exOut s =
        { l2rxReady := exsReady s,
          exs :=
            if s.curIn.l2rx.valid then
              { valid := true, data := s.curIn.l2rx.data, sop := s.ex.first, eop := s.curIn.l2rx.eop,
                error := s.curIn.l2rx.error }
            else {} } ∧
      xfer s.curIn.l2rx.valid (exOut s).l2rxReady = xfer (exOut s).exs.valid (exsReady s)) ∧
    (s.ex.state = 0b11#2 → exOut s = {})

/-- R192 to R195: an idle extractor starts a frame, discards a one-byte frame or a stray beat, or waits. -/
def Obligations.ExtractorIdles : Prop :=
  ∀ s : State, s.ex.state = E_IDLE →
    (s.curIn.l2rx.valid = true → s.curIn.l2rx.sop = true → s.curIn.l2rx.eop = false →
      Selects s .ex (.exStart (exSel s)) ∧
      ∀ g, exec (.exStart g) s = .next { s with
        ex := { s.ex with g := s.ex.g.set 0 s.curIn.l2rx.data, cnt := 1, state := E_HEADER }
        out := { s.out with ex := { l2rxReady := true, exs := {} } } }) ∧
    (s.curIn.l2rx.valid = true → s.curIn.l2rx.sop = true → s.curIn.l2rx.eop = true →
      Selects s .ex (.exIdleRunt (exSel s)) ∧
      ∀ g, exec (.exIdleRunt g) s = .next { s with
        out := { s.out with ex := { l2rxReady := true, exs := {} } }
        events := s.events ++ [⟨.runtFrame, .EX, s.cycle⟩] }) ∧
    (s.curIn.l2rx.valid = true → s.curIn.l2rx.sop = false →
      Selects s .ex (.exSkip (exSel s)) ∧
      ∀ g, exec (.exSkip g) s = .next { s with
        out := { s.out with ex := { l2rxReady := true, exs := {} } }
        events := s.events ++ [⟨.strayBeat, .EX, s.cycle⟩] }) ∧
    (s.curIn.l2rx.valid = false →
      Selects s .ex (.exIdleWait (exSel s)) ∧
      ∀ g, exec (.exIdleWait g) s = .next { s with out := { s.out with ex := { l2rxReady := true, exs := {} } } })

/-- R196 to R199: in `E_HEADER` the extractor stores bytes 1 to 18, stores byte 19 and exposes the header, drops a frame that ends, or
waits. -/
def Obligations.ExtractorBuffersTheHeader : Prop :=
  ∀ s : State, s.ex.state = E_HEADER →
    (∀ h : s.ex.cnt.toNat < 19, 1 ≤ s.ex.cnt.toNat → s.curIn.l2rx.valid = true → s.curIn.l2rx.eop = false →
      Selects s .ex (.exHdr (exSel s)) ∧
      ∀ g, exec (.exHdr g) s = .next { s with
        ex := { s.ex with g := s.ex.g.set s.ex.cnt.toNat s.curIn.l2rx.data (Nat.lt_succ_of_lt h), cnt := s.ex.cnt + 1 }
        out := { s.out with ex := { l2rxReady := true, exs := {} } } }) ∧
    (s.ex.cnt = 19 → s.curIn.l2rx.valid = true → s.curIn.l2rx.eop = false →
      Selects s .ex (.exHdrLast (exSel s)) ∧
      ∀ g, exec (.exHdrLast g) s = .next { s with
        ex := { s.ex with g := s.ex.g.set 19 s.curIn.l2rx.data, first := true, state := E_PAYLOAD }
        out := { s.out with ex := { l2rxReady := true, exs := {} } } }) ∧
    (∀ h : s.ex.cnt.toNat < 20, 1 ≤ s.ex.cnt.toNat → s.curIn.l2rx.valid = true → s.curIn.l2rx.eop = true →
      Selects s .ex (.exHdrRunt (exSel s)) ∧
      ∀ g, exec (.exHdrRunt g) s = .next { s with
        ex := { s.ex with g := s.ex.g.set s.ex.cnt.toNat s.curIn.l2rx.data h, state := E_IDLE }
        out := { s.out with ex := { l2rxReady := true, exs := {} } }
        events := s.events ++ [⟨.runtFrame, .EX, s.cycle⟩] }) ∧
    (1 ≤ s.ex.cnt.toNat → s.ex.cnt.toNat ≤ 19 → s.curIn.l2rx.valid = false →
      Selects s .ex (.exHdrWait (exSel s)) ∧
      ∀ g, exec (.exHdrWait g) s = .next { s with out := { s.out with ex := { l2rxReady := true, exs := {} } } })

/-- R200 to R202: in `E_PAYLOAD` a byte passes in the cycle it enters, the last one returns the extractor to idle, and without a byte
or without readiness nothing moves. -/
def Obligations.ExtractorPassesThePayload : Prop :=
  ∀ s : State, s.ex.state = E_PAYLOAD →
    (s.curIn.l2rx.valid = true → s.curIn.l2rx.eop = false → exsReady s = true →
      Selects s .ex (.exPay (exSel s)) ∧
      ∀ g, exec (.exPay g) s = .next { s with
        ex := { s.ex with first := false }
        out := { s.out with ex :=
          { l2rxReady := true,
            exs := { valid := true, data := s.curIn.l2rx.data, sop := s.ex.first, eop := false,
                     error := s.curIn.l2rx.error } } } }) ∧
    (s.curIn.l2rx.valid = true → s.curIn.l2rx.eop = true → exsReady s = true →
      Selects s .ex (.exPayEop (exSel s)) ∧
      ∀ g, exec (.exPayEop g) s = .next { s with
        ex := { s.ex with first := false, state := E_IDLE }
        out := { s.out with ex :=
          { l2rxReady := true,
            exs := { valid := true, data := s.curIn.l2rx.data, sop := s.ex.first, eop := true,
                     error := s.curIn.l2rx.error } } } }) ∧
    (s.curIn.l2rx.valid = false ∨ exsReady s = false →
      Selects s .ex (.exPayStall (exSel s)) ∧
      ∀ g, exec (.exPayStall g) s = .next { s with
        out := { s.out with ex :=
          { l2rxReady := exsReady s,
            exs :=
              if s.curIn.l2rx.valid then
                { valid := true, data := s.curIn.l2rx.data, sop := s.ex.first, eop := s.curIn.l2rx.eop,
                  error := s.curIn.l2rx.error }
              else {} } } })

/-! Transmit pipeline. -/

/-- R220: what the transmit pipeline drives in each state. -/
def Obligations.TransmitOutputs : Prop :=
  ∀ s : State,
    (s.tx.state = T_IDLE → txOut s = {}) ∧
    (s.tx.state = T_REQUEST → txOut s = { arq := { valid := true, ip := s.tx.reqIp } }) ∧
    (s.tx.state = T_AWAIT →
      txOut s = { arsReady := true, unreachable := s.curIn.ars.valid && s.curIn.ars.failed }) ∧
    (s.tx.state = T_SEND →
      txOut s =
        { frsReady := s.curIn.l2txReady,
          l2tx :=
            if (frs s).valid then
              { valid := true, data := (frs s).data, sop := (frs s).sop, eop := (frs s).eop, error := false,
                dstMac := s.tx.mac, srcMac := s.cfg.localMac, ethertype := s.cfg.ethertype }
            else {} } ∧
      xfer (frs s).valid (txOut s).frsReady = xfer (txOut s).l2tx.valid s.curIn.l2txReady) ∧
    (s.tx.state = T_DROP → txOut s = { frsReady := true }) ∧
    (s.tx.state = 0b101#3 ∨ s.tx.state = 0b110#3 ∨ s.tx.state = 0b111#3 → txOut s = {})

/-- R221 to R224: `TX_START` latches the destination address of the header, and the request is held until it is accepted. -/
def Obligations.TransmitRequestsTheAddress : Prop :=
  ∀ s : State,
    (s.tx.state = T_IDLE → (frs s).valid = true → (frs s).sop = true → ckDone s .tx = true →
      Selects s .tx (.txStart (txSel s)) ∧
      ∀ g, exec (.txStart g) s = .next { s with
        tx := { s.tx with reqIp := be32 s.fr.h 16, state := T_REQUEST }
        out := { s.out with tx := {} } }) ∧
    (s.tx.state = T_IDLE → (frs s).valid = false ∨ (frs s).sop = false ∨ ckDone s .tx = false →
      Selects s .tx (.txIdleWait (txSel s)) ∧
      ∀ g, exec (.txIdleWait g) s = .next { s with out := { s.out with tx := {} } }) ∧
    (s.tx.state = T_REQUEST → s.curIn.arqReady = true →
      Selects s .tx (.txReqAccept (txSel s)) ∧
      ∀ g, exec (.txReqAccept g) s = .next { s with
        tx := { s.tx with state := T_AWAIT }
        out := { s.out with tx := { arq := { valid := true, ip := s.tx.reqIp } } } }) ∧
    (s.tx.state = T_REQUEST → s.curIn.arqReady = false →
      Selects s .tx (.txReqWait (txSel s)) ∧
      ∀ g, exec (.txReqWait g) s = .next { s with
        out := { s.out with tx := { arq := { valid := true, ip := s.tx.reqIp } } } })

/-- R225 to R227: a response resolves the address or starts a drop with its one `unreachable` cycle; without one the pipeline waits. -/
def Obligations.TransmitAwaitsTheAddress : Prop :=
  ∀ s : State, s.tx.state = T_AWAIT →
    (s.curIn.ars.valid = true → s.curIn.ars.failed = false →
      Selects s .tx (.txResolved (txSel s)) ∧
      ∀ g, exec (.txResolved g) s = .next { s with
        tx := { s.tx with mac := s.curIn.ars.mac, state := T_SEND }
        out := { s.out with tx := { arsReady := true } } }) ∧
    (s.curIn.ars.valid = true → s.curIn.ars.failed = true →
      Selects s .tx (.txUnresolved (txSel s)) ∧
      ∀ g, exec (.txUnresolved g) s = .next { s with
        tx := { s.tx with state := T_DROP }
        out := { s.out with tx := { arsReady := true, unreachable := true } }
        events := s.events ++ [⟨.addressUnresolved, .TXP, s.cycle⟩] }) ∧
    (s.curIn.ars.valid = false →
      Selects s .tx (.txAwaitWait (txSel s)) ∧
      ∀ g, exec (.txAwaitWait g) s = .next { s with out := { s.out with tx := { arsReady := true } } })

/-- R228 to R230: in `T_SEND` each framed byte goes out with the sideband of R220, the last one returns the pipeline to idle, and without
a byte or without transport readiness nothing moves. -/
def Obligations.TransmitSendsTheDatagram : Prop :=
  ∀ s : State, s.tx.state = T_SEND →
    ((frs s).valid = true → (frs s).eop = false → s.curIn.l2txReady = true →
      Selects s .tx (.txSendBeat (txSel s)) ∧
      ∀ g, exec (.txSendBeat g) s = .next { s with
        out := { s.out with tx :=
          { frsReady := true,
            l2tx := { valid := true, data := (frs s).data, sop := (frs s).sop, eop := false, error := false,
                      dstMac := s.tx.mac, srcMac := s.cfg.localMac, ethertype := s.cfg.ethertype } } } }) ∧
    ((frs s).valid = true → (frs s).eop = true → s.curIn.l2txReady = true →
      Selects s .tx (.txSendEop (txSel s)) ∧
      ∀ g, exec (.txSendEop g) s = .next { s with
        tx := { s.tx with state := T_IDLE }
        out := { s.out with tx :=
          { frsReady := true,
            l2tx := { valid := true, data := (frs s).data, sop := (frs s).sop, eop := true, error := false,
                      dstMac := s.tx.mac, srcMac := s.cfg.localMac, ethertype := s.cfg.ethertype } } } }) ∧
    ((frs s).valid = false ∨ s.curIn.l2txReady = false →
      Selects s .tx (.txSendStall (txSel s)) ∧
      ∀ g, exec (.txSendStall g) s = .next { s with
        out := { s.out with tx :=
          { frsReady := s.curIn.l2txReady,
            l2tx :=
              if (frs s).valid then
                { valid := true, data := (frs s).data, sop := (frs s).sop, eop := (frs s).eop, error := false,
                  dstMac := s.tx.mac, srcMac := s.cfg.localMac, ethertype := s.cfg.ethertype }
              else {} } } })

/-- R231 to R233: in `T_DROP` each framed byte is consumed, none is sent, and the last one returns the pipeline to idle. -/
def Obligations.TransmitDropsTheDatagram : Prop :=
  ∀ s : State, s.tx.state = T_DROP →
    ((frs s).valid = true → (frs s).eop = false →
      Selects s .tx (.txDropBeat (txSel s)) ∧
      ∀ g, exec (.txDropBeat g) s = .next { s with out := { s.out with tx := { frsReady := true } } }) ∧
    ((frs s).valid = true → (frs s).eop = true →
      Selects s .tx (.txDropEop (txSel s)) ∧
      ∀ g, exec (.txDropEop g) s = .next { s with
        tx := { s.tx with state := T_IDLE }
        out := { s.out with tx := { frsReady := true } } }) ∧
    ((frs s).valid = false →
      Selects s .tx (.txDropWait (txSel s)) ∧
      ∀ g, exec (.txDropWait g) s = .next { s with out := { s.out with tx := { frsReady := true } } })

/-! Receive pipeline. -/

/-- R260: the validity test, and the cause that labels a rejected header. -/
def Obligations.HeaderValidity : Prop :=
  ∀ s : State,
    (hdrOk s = true ↔
      ckValue s .rx = 0x0000 ∧ s.ex.g[0].extractLsb' 4 4 = 4#4 ∧ s.ex.g[0].extractLsb' 0 4 = 5#4 ∧
      be32 s.ex.g 16 = s.cfg.localIp) ∧
    (s.ex.g[0].extractLsb' 4 4 ≠ 4#4 ∨ s.ex.g[0].extractLsb' 0 4 ≠ 5#4 → rejectCause s = .malformedHeader) ∧
    (s.ex.g[0].extractLsb' 4 4 = 4#4 → s.ex.g[0].extractLsb' 0 4 = 5#4 → ckValue s .rx ≠ 0 →
      rejectCause s = .checksumMismatch) ∧
    (s.ex.g[0].extractLsb' 4 4 = 4#4 → s.ex.g[0].extractLsb' 0 4 = 5#4 → ckValue s .rx = 0 →
      be32 s.ex.g 16 ≠ s.cfg.localIp → rejectCause s = .notAddressedHere)

/-- R261: what the receive pipeline drives in each state. -/
def Obligations.ReceiveOutputs : Prop :=
  ∀ s : State,
    (s.rx.state = R_IDLE ∨ s.rx.state = R_CHECK → rxOut s = {}) ∧
    (s.rx.state = R_PRESENT →
      rxOut s =
        { exsReady := rxoReady s,
          rxo :=
            if (exs s).valid then
              { valid := true, data := (exs s).data, sop := (exs s).sop, eop := (exs s).eop, error := (exs s).error,
                srcIp := be32 s.ex.g 12, protocol := s.ex.g[9], length := be16 s.ex.g 2 - 20 }
            else {} } ∧
      xfer (exs s).valid (rxOut s).exsReady = xfer (rxOut s).rxo.valid (rxoReady s)) ∧
    (s.rx.state = R_DROP → rxOut s = { exsReady := true })

/-- R262 to R266: a new frame is checked, and its header is accepted, rejected with its cause, or still being checked. -/
def Obligations.ReceiveChecksTheHeader : Prop :=
  ∀ s : State,
    (s.rx.state = R_IDLE → (exs s).valid = true → (exs s).sop = true →
      Selects s .rx (.rxStart (rxSel s)) ∧
      ∀ g, exec (.rxStart g) s = .next { s with rx := { state := R_CHECK }, out := { s.out with rx := {} } }) ∧
    (s.rx.state = R_IDLE → (exs s).valid = false ∨ (exs s).sop = false →
      Selects s .rx (.rxIdleWait (rxSel s)) ∧
      ∀ g, exec (.rxIdleWait g) s = .next { s with out := { s.out with rx := {} } }) ∧
    (s.rx.state = R_CHECK → ckDone s .rx = true → hdrOk s = true →
      Selects s .rx (.rxAccept (rxSel s)) ∧
      ∀ g, exec (.rxAccept g) s = .next { s with rx := { state := R_PRESENT }, out := { s.out with rx := {} } }) ∧
    (s.rx.state = R_CHECK → ckDone s .rx = true → hdrOk s = false →
      Selects s .rx (.rxReject (rxSel s)) ∧
      ∀ g, exec (.rxReject g) s = .next { s with
        rx := { state := R_DROP }, out := { s.out with rx := {} }
        events := s.events ++ [⟨rejectCause s, .RXP, s.cycle⟩] }) ∧
    (s.rx.state = R_CHECK → ckDone s .rx = false →
      Selects s .rx (.rxCheckWait (rxSel s)) ∧
      ∀ g, exec (.rxCheckWait g) s = .next { s with out := { s.out with rx := {} } })

/-- R267 to R269: in `R_PRESENT` each payload byte is forwarded with the sideband of R261, the last one returns the pipeline to idle, and
without a byte or without readiness nothing moves. -/
def Obligations.ReceivePresentsThePayload : Prop :=
  ∀ s : State, s.rx.state = R_PRESENT →
    ((exs s).valid = true → (exs s).eop = false → rxoReady s = true →
      Selects s .rx (.rxPresentBeat (rxSel s)) ∧
      ∀ g, exec (.rxPresentBeat g) s = .next { s with
        out := { s.out with rx :=
          { exsReady := true,
            rxo := { valid := true, data := (exs s).data, sop := (exs s).sop, eop := false, error := (exs s).error,
                     srcIp := be32 s.ex.g 12, protocol := s.ex.g[9], length := be16 s.ex.g 2 - 20 } } } }) ∧
    ((exs s).valid = true → (exs s).eop = true → rxoReady s = true →
      Selects s .rx (.rxPresentEop (rxSel s)) ∧
      ∀ g, exec (.rxPresentEop g) s = .next { s with
        rx := { state := R_IDLE }
        out := { s.out with rx :=
          { exsReady := true,
            rxo := { valid := true, data := (exs s).data, sop := (exs s).sop, eop := true, error := (exs s).error,
                     srcIp := be32 s.ex.g 12, protocol := s.ex.g[9], length := be16 s.ex.g 2 - 20 } } } }) ∧
    ((exs s).valid = false ∨ rxoReady s = false →
      Selects s .rx (.rxPresentStall (rxSel s)) ∧
      ∀ g, exec (.rxPresentStall g) s = .next { s with
        out := { s.out with rx :=
          { exsReady := rxoReady s,
            rxo :=
              if (exs s).valid then
                { valid := true, data := (exs s).data, sop := (exs s).sop, eop := (exs s).eop, error := (exs s).error,
                  srcIp := be32 s.ex.g 12, protocol := s.ex.g[9], length := be16 s.ex.g 2 - 20 }
              else {} } } })

/-- R270 to R272: in `R_DROP` each byte is consumed, none is forwarded, and the last one returns the pipeline to idle. -/
def Obligations.ReceiveDropsTheFrame : Prop :=
  ∀ s : State, s.rx.state = R_DROP →
    ((exs s).valid = true → (exs s).eop = false →
      Selects s .rx (.rxDropBeat (rxSel s)) ∧
      ∀ g, exec (.rxDropBeat g) s = .next { s with out := { s.out with rx := { exsReady := true } } }) ∧
    ((exs s).valid = true → (exs s).eop = true →
      Selects s .rx (.rxDropEop (rxSel s)) ∧
      ∀ g, exec (.rxDropEop g) s = .next { s with
        rx := { state := R_IDLE }, out := { s.out with rx := { exsReady := true } } }) ∧
    ((exs s).valid = false →
      Selects s .rx (.rxDropWait (rxSel s)) ∧
      ∀ g, exec (.rxDropWait g) s = .next { s with out := { s.out with rx := { exsReady := true } } })

/-! Crossbar. -/

/-- R301, R302: a registration appends the protocol number as the next user port, which then matches it; a repeated number refuses the
configuration. The model's choice: `arb_grant` keeps its value in the width of the longer registry (log entry 5), and the
refusal is a next state after which the machine stops (log entry 13), with a record that names `CFG` and the next cycle (log entry 20). -/
def Obligations.RegistrationBuildsTheRegistry : Prop :=
  ∀ (s : State) (p : Byte) (ps : List Byte), s.pending = p :: ps →
    (p ∉ s.cfg.proto →
      Selects s .cfg .xbRegister ∧
      exec .xbRegister s = .next { s with
        cfg := { s.cfg with proto := s.cfg.proto ++ [p] }, pending := ps, events := []
        arb := { s.arb with grant := .ofPort { s.cfg with proto := s.cfg.proto ++ [p] } s.arb.grant.index } } ∧
      (s.cfg.proto.Nodup → (s.cfg.proto ++ [p]).Nodup) ∧
      portOf { s.cfg with proto := s.cfg.proto ++ [p] } p = some s.cfg.nports ∧
      ∀ q, q ≠ p → portOf { s.cfg with proto := s.cfg.proto ++ [p] } q = portOf s.cfg q) ∧
    (p ∈ s.cfg.proto →
      Selects s .cfg .xbRegisterDup ∧
      ∃ t, exec .xbRegisterDup s = .next t ∧
        t = { s with refused := true, events := [⟨.duplicateRegistration, .CFG, s.cycle⟩] } ∧
        step t = .fault .configurationRefused)

/-- R303: the multiplexer connects the granted port, and only it, to the framer. A port that presents no beat presents 0 on every signal,
whatever the environment drives (R66, R349; the model's reading, log entry 8). -/
def Obligations.MultiplexerOutputs : Prop :=
  ∀ s : State,
    (s.arb.busy = true →
      mo s = s.utxAt s.arb.grant.index ∧
      xfer (s.utxAt s.arb.grant.index).valid (utxReadyAt s s.arb.grant.index) = xfer (mo s).valid (moReady s) ∧
      ∀ k, utxReadyAt s k = if k = s.arb.grant.index then moReady s else false) ∧
    (s.arb.busy = false → mo s = {} ∧ ∀ k, utxReadyAt s k = false) ∧
    (∀ k, k < s.cfg.nports →
      s.utxAt k = if (s.curIn.utx.getD k {}).valid then s.curIn.utx.getD k {} else {}) ∧
    ((mo s).valid = false → mo s = {}) ∧
    muxOut s = { mo := mo s, utxReady := (List.range s.cfg.nports).map (utxReadyAt s) }

/-- R304 (the policy the spec takes among those it allows, log entry 14): when some port requests, the next grant goes to the first requesting port
after `g` in rotation, `g` itself last. -/
def Obligations.RotationGrantsTheNextRequester : Prop :=
  ∀ (s : State) (g : Nat), anyReq s = true →
    ∃ j, 1 ≤ j ∧ j ≤ s.cfg.nports ∧
      nextGrant s g = some ((g + j) % s.cfg.nports) ∧
      (s.utxAt ((g + j) % s.cfg.nports)).valid = true ∧
      ∀ i, 1 ≤ i → i < j → (s.utxAt ((g + i) % s.cfg.nports)).valid = false

/-- R305 to R309: a free multiplexer grants the next requester or idles; a granted port's beats pass, its last one releases the grant, and
without a beat or without readiness nothing moves. Which requester is next is the spec's round robin, a policy that 93_implementation_defined.md
I1 lets another model replace (log entry 14). -/
def Obligations.MultiplexerGrantsAndPasses : Prop :=
  ∀ s : State,
    (s.arb.busy = false → anyReq s = true →
      Selects s .arb (.xbArbGrant (arbSel s)) ∧
      ∃ k, nextGrant s s.arb.grant.index = some k ∧ (GrantReg.ofPort s.cfg k).index = k ∧
        ∀ g, exec (.xbArbGrant g) s = .next { s with
          arb := { grant := .ofPort s.cfg k, busy := true }
          out := { s.out with mux := { mo := {}, utxReady := List.replicate s.cfg.nports false } } }) ∧
    (s.arb.busy = false → anyReq s = false →
      Selects s .arb (.xbArbIdle (arbSel s)) ∧
      ∀ g, exec (.xbArbIdle g) s = .next { s with
        out := { s.out with mux := { mo := {}, utxReady := List.replicate s.cfg.nports false } } }) ∧
    (s.arb.busy = true → (mo s).valid = true → moReady s = true → (mo s).eop = false →
      Selects s .arb (.xbMuxBeat (arbSel s)) ∧
      ∀ g, exec (.xbMuxBeat g) s = .next { s with
        out := { s.out with mux :=
          { mo := s.utxAt s.arb.grant.index, utxReady := (List.range s.cfg.nports).map (fun k => k == s.arb.grant.index) } } }) ∧
    (s.arb.busy = true → (mo s).valid = true → moReady s = true → (mo s).eop = true →
      Selects s .arb (.xbMuxEop (arbSel s)) ∧
      ∀ g, exec (.xbMuxEop g) s = .next { s with
        arb := { s.arb with busy := false }
        out := { s.out with mux :=
          { mo := s.utxAt s.arb.grant.index, utxReady := (List.range s.cfg.nports).map (fun k => k == s.arb.grant.index) } } }) ∧
    (s.arb.busy = true → (mo s).valid = false ∨ moReady s = false →
      Selects s .arb (.xbMuxStall (arbSel s)) ∧
      ∀ g, exec (.xbMuxStall g) s = .next { s with
        out := { s.out with mux :=
          { mo := s.utxAt s.arb.grant.index
            utxReady := (List.range s.cfg.nports).map (fun k => k == s.arb.grant.index && moReady s) } } })

/-- R310: the beat goes to the one port registered for its protocol number, which gives the ready; with no such port every user port is
idle and the beat is taken. R412: while the packet's port is not ready, `L2RX` is not ready, also in a cycle without a beat, where the
model matches the packet's protocol number (log entry 8). -/
def Obligations.DemultiplexerOutputs : Prop :=
  ∀ s : State,
    ((rxo s).valid = true → matchProtocol s = (rxo s).protocol) ∧
    (s.rx.state = R_PRESENT → matchProtocol s = s.ex.g[9]) ∧
    (∀ m, s.rx.state = R_PRESENT → s.ex.state = E_PAYLOAD → portOf s.cfg s.ex.g[9] = some m → s.urxReadyAt m = false →
      rxoReady s = false ∧ exsReady s = false ∧ l2rxReady s = false) ∧
    (∀ (m : Nat) (h : m < s.cfg.proto.length), s.cfg.proto.Nodup → s.cfg.proto[m] = matchProtocol s →
      portOf s.cfg (matchProtocol s) = some m ∧
      dmxOut s =
        { rxoReady := s.urxReadyAt m
          urx := (List.range s.cfg.nports).map (fun k => if k = m then rxo s else {}) }) ∧
    (matchProtocol s ∉ s.cfg.proto →
      portOf s.cfg (matchProtocol s) = none ∧
      dmxOut s = { rxoReady := true, urx := List.replicate s.cfg.nports {} })

/-- R311 to R314: the demultiplexer delivers, stalls, discards with one record per packet, or idles. -/
def Obligations.DemultiplexerRoutes : Prop :=
  ∀ s : State,
    (∀ m, (rxo s).valid = true → portOf s.cfg (rxo s).protocol = some m → s.urxReadyAt m = true →
      Selects s .dmx .xbDmxDeliver ∧
      exec .xbDmxDeliver s = .next { s with
        out := { s.out with dmx :=
          { rxoReady := true, urx := (List.range s.cfg.nports).map (fun k => if k = m then rxo s else {}) } } }) ∧
    (∀ m, (rxo s).valid = true → portOf s.cfg (rxo s).protocol = some m → s.urxReadyAt m = false →
      Selects s .dmx .xbDmxStall ∧
      exec .xbDmxStall s = .next { s with
        out := { s.out with dmx :=
          { rxoReady := false, urx := (List.range s.cfg.nports).map (fun k => if k = m then rxo s else {}) } } }) ∧
    ((rxo s).valid = true → portOf s.cfg (rxo s).protocol = none →
      Selects s .dmx (.xbDmxDiscard (dmxSel s)) ∧
      ∀ g, exec (.xbDmxDiscard g) s = .next { s with
        out := { s.out with dmx := { rxoReady := true, urx := List.replicate s.cfg.nports {} } }
        events :=
          if (rxo s).sop then s.events ++ [⟨.unregisteredProtocol, .DMX, s.cycle⟩] else s.events }) ∧
    ((rxo s).valid = false →
      Selects s .dmx (.xbDmxIdle (dmxSel s)) ∧
      ∀ g, exec (.xbDmxIdle g) s = .next { s with
        out := { s.out with dmx := { rxoReady := rxoReady s, urx := List.replicate s.cfg.nports {} } } })

/-! The cycle and reset. -/

/-- R351, R17: in a running cycle every unit performs the operation its own select word chooses, all from the registers and inputs before
the edge, and all their register writes, outputs and events apply together. -/
def Obligations.RunPerformsEveryUnit : Prop :=
  ∀ s : State, ∃ (i₁ i₂ i₃ i₄ i₅ i₆ i₇ i₈ : Instr) (u₁ u₂ u₃ u₄ u₅ u₆ u₇ u₈ : State),
    (Selects s (.ck .tx) i₁ ∧ exec i₁ { s with events := [] } = .next u₁) ∧
    (Selects s (.ck .rx) i₂ ∧ exec i₂ { s with events := [] } = .next u₂) ∧
    (Selects s .fr i₃ ∧ exec i₃ { s with events := [] } = .next u₃) ∧
    (Selects s .ex i₄ ∧ exec i₄ { s with events := [] } = .next u₄) ∧
    (Selects s .tx i₅ ∧ exec i₅ { s with events := [] } = .next u₅) ∧
    (Selects s .rx i₆ ∧ exec i₆ { s with events := [] } = .next u₆) ∧
    (Selects s .arb i₇ ∧ exec i₇ { s with events := [] } = .next u₇) ∧
    (Selects s .dmx i₈ ∧ exec i₈ { s with events := [] } = .next u₈) ∧
    exec .run s = .next { s with
      ckTx := u₁.ckTx, ckRx := u₂.ckRx, fr := u₃.fr, ex := u₄.ex, tx := u₅.tx, rx := u₆.rx, arb := u₇.arb
      out :=
        { mux := muxOut s, fr := frOut s, ckTx := ckOut s .tx, ckRx := ckOut s .rx, tx := txOut s, ex := exOut s,
          rx := rxOut s, dmx := dmxOut s }
      events :=
        u₁.events ++ u₂.events ++ u₃.events ++ u₄.events ++ u₅.events ++ u₆.events ++ u₇.events ++ u₈.events
      inputs := s.inputs.tail, seen := s.curIn, cycle := s.cycle + 1 }

/-- R400 to R402: a reset cycle gives every register its reset value, whatever the state was, drives every output of the block 0, records
no event, and keeps the configuration. That the signals between the units are 0 in `out` too is the model's choice (log entry 6). -/
def Obligations.ResetClearsEveryRegister : Prop :=
  ∀ s : State, exec .reset s = .next { s with
    ckTx := { acc := 0x0000, cnt := 0 }, ckRx := { acc := 0x0000, cnt := 0 }
    fr := { state := F_IDLE, idx := 0, h := Vector.replicate 20 0x00 }
    ex := { state := E_IDLE, cnt := 0, first := false, g := Vector.replicate 20 0x00 }
    tx := { state := T_IDLE, reqIp := 0x00000000, mac := 0x000000000000 }
    rx := { state := R_IDLE }
    arb := { grant := .ofPort s.cfg (s.cfg.nports - 1), busy := false }
    out :=
      { mux := { mo := {}, utxReady := List.replicate s.cfg.nports false }
        dmx := { rxoReady := false, urx := List.replicate s.cfg.nports {} } }
    events := []
    inputs := s.inputs.tail, seen := s.curIn, cycle := s.cycle + 1 }

/-- R43: the value of every register in the state after reset. -/
def Obligations.ResetStateValues : Prop :=
  State.reset.ckTx = { acc := 0x0000, cnt := 0 } ∧ State.reset.ckRx = { acc := 0x0000, cnt := 0 } ∧
  State.reset.fr = { state := 0b00#2, idx := 0, h := Vector.replicate 20 0x00 } ∧
  State.reset.ex = { state := 0b00#2, cnt := 0, first := false, g := Vector.replicate 20 0x00 } ∧
  State.reset.tx = { state := 0b000#3, reqIp := 0x00000000, mac := 0x000000000000 } ∧
  State.reset.rx = { state := 0b00#2 } ∧
  State.reset.arb = { grant := .ofPort State.reset.cfg (State.reset.cfg.nports - 1), busy := false }

/-! The whole machine. -/

/-- R24 to R37, R413: a state whose registers are in range and coupled steps only to such states. -/
def Obligations.SoundIsKept : Prop :=
  ∀ s t : State, Sound s → step s = .next t → Sound t

/-- R43, R413: the state after reset is sound, and every reset cycle of a legal configuration leads to a sound state. -/
def Obligations.ResetIsSound : Prop :=
  Sound State.reset ∧ ∀ s t : State, s.cfg.legal = true → exec .reset s = .next t → Sound t

/-- R144, R145: the checksum invariant is kept by every step from a sound state, and holds after reset. -/
def Obligations.ChecksumTracksIsKept : Prop :=
  ChecksumTracks State.reset ∧
  ∀ s t : State, Sound s → ChecksumTracks s → step s = .next t → ChecksumTracks t

/-- R145, R204: `H` changes only by `FR_LOAD`, while `CK_TX` is reset; `G` changes only in `E_IDLE` and `E_HEADER`, so not while a header is
checked or a payload presented. -/
def Obligations.HeadersAreStable : Prop :=
  ∀ s t : State, Sound s → Running s → step s = .next t →
    (t.fr.h ≠ s.fr.h → Selects s .fr (.frLoad (frSel s)) ∧ ckResetIn s .tx = true) ∧
    (s.fr.state ≠ F_IDLE → t.fr.h = s.fr.h) ∧
    (t.ex.g ≠ s.ex.g → s.ex.state = E_IDLE ∨ s.ex.state = E_HEADER) ∧
    (s.rx.state ≠ R_IDLE → s.ex.state = E_PAYLOAD ∧ t.ex.g = s.ex.g)

/-- R347, R74: the transmit path's next registers and outputs depend on the receive path's registers and inputs in nothing, and the other
way round. -/
def Obligations.PathsShareNothing : Prop :=
  ∀ s s' t t' : State, s.pending = [] → s'.pending = [] → step s = .next t → step s' = .next t' →
    (TransmitAgree s s' →
      t.ckTx = t'.ckTx ∧ t.fr = t'.fr ∧ t.tx = t'.tx ∧ t.arb = t'.arb ∧
      t.out.mux = t'.out.mux ∧ t.out.fr = t'.out.fr ∧ t.out.ckTx = t'.out.ckTx ∧ t.out.tx = t'.out.tx) ∧
    (ReceiveAgree s s' →
      t.ckRx = t'.ckRx ∧ t.ex = t'.ex ∧ t.rx = t'.rx ∧
      t.out.ex = t'.out.ex ∧ t.out.ckRx = t'.out.ckRx ∧ t.out.rx = t'.out.rx ∧ t.out.dmx = t'.out.dmx)

/-- R350, R405: no valid, data or sideband output depends on a ready input: two cycles that differ in ready inputs only drive the same
beats, requests and `unreachable`. -/
def Obligations.ValidDoesNotDependOnReady : Prop :=
  ∀ (s t t' : State) (i : Inputs) (is : List Inputs) (ur : List Bool) (l a : Bool), s.pending = [] →
    step { s with inputs := i :: is } = .next t →
    step { s with inputs := { i with urxReady := ur, l2txReady := l, arqReady := a } :: is } = .next t' →
    t.out.mux.mo = t'.out.mux.mo ∧ t.out.fr.frs = t'.out.fr.frs ∧ t.out.ckTx = t'.out.ckTx ∧
    t.out.ckRx = t'.out.ckRx ∧ t.out.tx.l2tx = t'.out.tx.l2tx ∧ t.out.tx.arq = t'.out.tx.arq ∧
    t.out.tx.unreachable = t'.out.tx.unreachable ∧ t.out.ex.exs = t'.out.ex.exs ∧ t.out.rx.rxo = t'.out.rx.rxo ∧
    t.out.dmx.urx = t'.out.dmx.urx

/-- R404: over two running cycles in which the environment holds its beats until they transfer, the block holds its own on `ARQ`, `L2TX`
and every `URX[k]`. -/
def Obligations.OutputsHoldUntilTransfer : Prop :=
  ∀ s t v : State, Sound s → Running s → Running t → step s = .next t → step t = .next v →
    holdsUntilTransfer t v = true →
    (t.out.tx.arq.valid = true → t.seen.arqReady = false → v.out.tx.arq = t.out.tx.arq) ∧
    (t.out.tx.l2tx.valid = true → t.seen.l2txReady = false → v.out.tx.l2tx = t.out.tx.l2tx) ∧
    (∀ k, k < s.cfg.nports → (t.out.dmx.urx.getD k {}).valid = true → t.seen.urxReady.getD k false = false →
      v.out.dmx.urx.getD k {} = t.out.dmx.urx.getD k {})

/-- R349, R402: after a cycle, a stream of the block (`MO`, `FRS`, `L2TX`, `ARQ`, `EXS`, `RXO`, `URX[k]`) that is not valid has every other
signal 0; a reset cycle drives every output of the block 0. That `MO` is 0 without a beat whatever the granted port drives is the model's
reading of R303 with R349 (log entry 8). That a reset cycle records the signals between the units as 0 too is the model's choice (log entry 6). -/
def Obligations.InvalidStreamsAreZero : Prop :=
  ∀ s t : State, s.pending = [] → step s = .next t →
    (t.out.mux.mo.valid = false → t.out.mux.mo = {}) ∧
    (t.out.fr.frs.valid = false → t.out.fr.frs = {}) ∧
    (t.out.tx.l2tx.valid = false → t.out.tx.l2tx = {}) ∧
    (t.out.tx.arq.valid = false → t.out.tx.arq = {}) ∧
    (t.out.ex.exs.valid = false → t.out.ex.exs = {}) ∧
    (t.out.rx.rxo.valid = false → t.out.rx.rxo = {}) ∧
    (∀ b ∈ t.out.dmx.urx, b.valid = false → b = {}) ∧
    t.out.dmx.urx.length = s.cfg.nports ∧ t.out.mux.utxReady.length = s.cfg.nports ∧
    (s.curIn.rst = true → t.out = Outputs.zero s.cfg.nports)

/-- R382, R374: `unreachable` is 1 in exactly the cycles in which `TX_UNRESOLVED` is performed, which record `AddressUnresolved`, and it is
0 in the cycle after one. -/
def Obligations.UnreachableIsOneCycle : Prop :=
  ∀ s t : State, s.pending = [] → step s = .next t →
    (t.out.tx.unreachable = true ↔ s.curIn.rst = false ∧ Selects s .tx (.txUnresolved (txSel s))) ∧
    (t.out.tx.unreachable = true ↔ (⟨.addressUnresolved, .TXP, s.cycle⟩ : Event) ∈ t.events) ∧
    (t.out.tx.unreachable = true → t.tx.state = T_DROP ∧ ∀ v, step t = .next v → v.out.tx.unreachable = false)

/-- R315 item 1, R76: while a port holds the grant every beat on `MO` is its own, no other port is ready, and the grant ends only with its
eop beat's transfer. -/
def Obligations.GrantIsExclusive : Prop :=
  ∀ s t : State, Running s → step s = .next t → s.arb.busy = true →
    t.out.mux.mo = s.utxAt s.arb.grant.index ∧ t.arb.grant = s.arb.grant ∧
    (∀ k, k ≠ s.arb.grant.index → t.out.mux.utxReady.getD k false = false) ∧
    (t.arb.busy = false ↔
      (s.utxAt s.arb.grant.index).valid = true ∧ (s.utxAt s.arb.grant.index).eop = true ∧
      t.out.mux.utxReady.getD s.arb.grant.index false = true)

/-- R315 items 2 and 4: a beat presented on `URX[k]` has the protocol number registered for `k`, and no other port sees it. -/
def Obligations.DeliveriesNeverCross : Prop :=
  ∀ (s t : State) (k : Nat), InRange s → s.pending = [] → step s = .next t →
    (t.out.dmx.urx.getD k {}).valid = true →
    s.cfg.proto[k]? = some (t.out.dmx.urx.getD k {}).protocol ∧
    ∀ j, j ≠ k → t.out.dmx.urx.getD j {} = {}

/-- R383: a delivered beat carries the data and the error flag of its `L2RX` byte, no sent beat has an error flag, and the flag has no
effect on any register. -/
def Obligations.ErrorFlagPassesUnchanged : Prop :=
  ∀ (s t : State), s.pending = [] → step s = .next t →
    t.out.tx.l2tx.error = false ∧
    (∀ k, (t.out.dmx.urx.getD k {}).valid = true →
      (t.out.dmx.urx.getD k {}).error = t.seen.l2rx.error ∧ (t.out.dmx.urx.getD k {}).data = t.seen.l2rx.data) ∧
    (∀ (i : Inputs) (is : List Inputs) (e : Bool) (t' : State), s.inputs = i :: is →
      step { s with inputs := { i with l2rx := { i.l2rx with error := e } } :: is } = .next t' →
      t'.ckTx = t.ckTx ∧ t'.ckRx = t.ckRx ∧ t'.fr = t.fr ∧ t'.ex = t.ex ∧ t'.tx = t.tx ∧ t'.rx = t.rx ∧
      t'.arb = t.arb ∧ t'.events = t.events)

/-- R379 item 3, R413: from a sound state a cycle records at most one event on each path, and never `IllegalState`. -/
def Obligations.OneEventPerPath : Prop :=
  ∀ s t : State, Sound s → step s = .next t →
    (t.events.filter (fun e => onTransmitPath e.unit)).length ≤ 1 ∧
    (t.events.filter (fun e => onReceivePath e.unit)).length ≤ 1 ∧
    ∀ e ∈ t.events, e.cause ≠ .illegalState ∧ e.cycle = s.cycle

/-! The grant register, and what no operation reads. -/

/-- R36: `arb_grant` has max(1, ceil(log2 NPORTS)) bits and can name every port; in a clock cycle with `rst = 0` only `XB_ARB_GRANT` writes
it; reset writes `NPORTS-1`, so that the first rotation (R304, log entry 14) starts at port 0. -/
def Obligations.GrantRegister : Prop :=
  (∀ c : Config, grantWidth c = max 1 (Nat.clog 2 c.nports)) ∧
  (∀ (c : Config) (k : Nat), k < c.nports →
    (GrantReg.ofPort c k).width = grantWidth c ∧ (GrantReg.ofPort c k).index = k) ∧
  (∀ s t : State, Running s → step s = .next t → t.arb.grant ≠ s.arb.grant → Selects s .arb (.xbArbGrant (arbSel s))) ∧
  (∀ s t : State, exec .reset s = .next t →
    t.arb.grant.width = grantWidth s.cfg ∧ t.arb.grant.index = s.cfg.nports - 1) ∧
  (∀ s : State, (s.utxAt 0).valid = true → nextGrant s (s.cfg.nports - 1) = some 0)

/-- R42, with the registers R381 leaves out of its list of values a drop leaves behind (log entry 18): no operation reads them before it
writes them, so two sound states that differ in nothing else drive the same outputs, record the same events and again differ in nothing
else. -/
def Obligations.LeftoverValuesAreNotRead : Prop :=
  ∀ s s' t t' : State, Sound s → Sound s' → SameButUnread s s' → step s = .next t → step s' = .next t' →
    SameButUnread t t' ∧ t.events = t'.events ∧ (s.pending = [] → t.out = t'.out ∧ t.seen = t'.seen)

end
end

