-- ==== Sys2Proof/Laws/Decode.lean ====
section
/-! SUPPORT. Select words: packing and unpacking are inverse, every word is decoded, and what each table selects, said on
the fields of the select word (30_encoding.md R106 to R120). -/

namespace Sys2Proof

@[simp] theorem CkSel.unpack_pack (g : CkSel) : CkSel.unpack g.pack = g := by
  obtain ⟨a, b, c⟩ := g; revert a b c; decide +kernel

@[simp] theorem FrSel.unpack_pack (g : FrSel) : FrSel.unpack g.pack = g := by
  obtain ⟨s, a, b, c, d, e⟩ := g; revert s a b c d e; decide +kernel

@[simp] theorem ExSel.unpack_pack (g : ExSel) : ExSel.unpack g.pack = g := by
  obtain ⟨s, a, b, c, d, e⟩ := g; revert s a b c d e; decide +kernel

@[simp] theorem TxSel.unpack_pack (g : TxSel) : TxSel.unpack g.pack = g := by
  obtain ⟨s, a, b, c, d, e, f, h, i⟩ := g; revert s a b c d e f h i; decide +kernel

@[simp] theorem RxSel.unpack_pack (g : RxSel) : RxSel.unpack g.pack = g := by
  obtain ⟨s, a, b, c, d, e, f⟩ := g; revert s a b c d e f; decide +kernel

@[simp] theorem ArbSel.unpack_pack (g : ArbSel) : ArbSel.unpack g.pack = g := by
  obtain ⟨a, b, c, d, e⟩ := g; revert a b c d e; decide +kernel

@[simp] theorem DmxSel.unpack_pack (g : DmxSel) : DmxSel.unpack g.pack = g := by
  obtain ⟨a, b, c⟩ := g; revert a b c; decide +kernel

/-- What the checksum table selects (R114). -/
theorem decode_ck (u : CkInst) (g : CkSel) :
    decode (.ck u g.pack) =
      .ok (if g.reset then .ckReset u g
        else if g.ce && !g.done then .ckAccum u
        else .ckHold u g) := by
  obtain ⟨a, b, c⟩ := g; cases u <;> revert a b c <;> decide +kernel

/-- What the framer's table selects (R115). -/
theorem decode_fr (g : FrSel) :
    decode (.fr g.pack) =
      .ok (if g.state = F_IDLE then
          if g.moValid then if g.moSop then .frLoad g else .frSkip g else .frIdleWait g
        else if g.state = F_HEADER then
          if g.frsReady then if g.last then .frHdrLast g else .frHdr g else .frHdrStall g
        else if g.state = F_PAYLOAD then
          if g.moValid && g.frsReady then if g.moEop then .frPayEop g else .frPay g else .frPayStall g
        else .frIllegal g) := by
  obtain ⟨s, a, b, c, d, e⟩ := g; revert s a b c d e; decide +kernel

/-- What the extractor's table selects (R116). -/
theorem decode_ex (g : ExSel) :
    decode (.ex g.pack) =
      .ok (if g.state = E_IDLE then
          if g.l2rxValid then
            if g.l2rxSop then if g.l2rxEop then .exIdleRunt g else .exStart g else .exSkip g
          else .exIdleWait g
        else if g.state = E_HEADER then
          if g.l2rxValid then
            if g.l2rxEop then .exHdrRunt g else if g.last then .exHdrLast g else .exHdr g
          else .exHdrWait g
        else if g.state = E_PAYLOAD then
          if g.l2rxValid && g.exsReady then if g.l2rxEop then .exPayEop g else .exPay g else .exPayStall g
        else .exIllegal g) := by
  obtain ⟨s, a, b, c, d, e⟩ := g; revert s a b c d e; decide +kernel

/-- What the transmit pipeline's table selects (R117). -/
theorem decode_tx (g : TxSel) :
    decode (.tx g.pack) =
      .ok (if g.state = T_IDLE then
          if g.frsValid && g.frsSop && g.ckDone then .txStart g else .txIdleWait g
        else if g.state = T_REQUEST then if g.arqReady then .txReqAccept g else .txReqWait g
        else if g.state = T_AWAIT then
          if g.arsValid then if g.arsFailed then .txUnresolved g else .txResolved g else .txAwaitWait g
        else if g.state = T_SEND then
          if g.frsValid && g.l2txReady then if g.frsEop then .txSendEop g else .txSendBeat g else .txSendStall g
        else if g.state = T_DROP then
          if g.frsValid then if g.frsEop then .txDropEop g else .txDropBeat g else .txDropWait g
        else .txIllegal g) := by
  obtain ⟨s, a, b, c, d, e, f, h, i⟩ := g; revert s a b c d e f h i; decide +kernel

/-- What the receive pipeline's table selects (R118). -/
theorem decode_rx (g : RxSel) :
    decode (.rx g.pack) =
      .ok (if g.state = R_IDLE then if g.exsValid && g.exsSop then .rxStart g else .rxIdleWait g
        else if g.state = R_CHECK then
          if g.ckDone then if g.hdrOk then .rxAccept g else .rxReject g else .rxCheckWait g
        else if g.state = R_PRESENT then
          if g.exsValid && g.rxoReady then if g.exsEop then .rxPresentEop g else .rxPresentBeat g
          else .rxPresentStall g
        else if g.exsValid then if g.exsEop then .rxDropEop g else .rxDropBeat g
        else .rxDropWait g) := by
  obtain ⟨s, a, b, c, d, e, f⟩ := g; revert s a b c d e f; decide +kernel

/-- What the multiplexer's table selects (R119). -/
theorem decode_arb (g : ArbSel) :
    decode (.arb g.pack) =
      .ok (if g.busy then
          if g.moValid && g.moReady then if g.moEop then .xbMuxEop g else .xbMuxBeat g else .xbMuxStall g
        else if g.anyReq then .xbArbGrant g else .xbArbIdle g) := by
  obtain ⟨a, b, c, d, e⟩ := g; revert a b c d e; decide +kernel

/-- What the demultiplexer's table selects (R119). -/
theorem decode_dmx (g : DmxSel) :
    decode (.dmx g.pack) =
      .ok (if g.rxoValid then
          if g.mOk then if g.mReady then .xbDmxDeliver else .xbDmxStall else .xbDmxDiscard g
        else .xbDmxIdle g) := by
  obtain ⟨a, b, c⟩ := g; revert a b c; decide +kernel

/-- What `CFGSEL` selects (R120). -/
theorem decode_cfg (b : Bool) :
    decode (.cfg (BitVec.ofBool b)) = .ok (if b then .xbRegisterDup else .xbRegister) := by
  revert b; decide

/-- What `TOPSEL` selects (R120). -/
theorem decode_top (b : Bool) : decode (.top (BitVec.ofBool b)) = .ok (if b then .reset else .run) := by
  revert b; decide

end Sys2Proof
end

