-- ==== Sys2Proof/Laws/State.lean ====
section
/-! SUPPORT. One lemma per field per update of the state, each true by rfl. -/

namespace Sys2Proof.Machine

variable (s : State)

/-! `commitFr`. -/

@[simp] theorem commitFr_cfg (r : FrRegs) : (s.commitFr r).cfg = s.cfg := rfl
@[simp] theorem commitFr_pending (r : FrRegs) : (s.commitFr r).pending = s.pending := rfl
@[simp] theorem commitFr_refused (r : FrRegs) : (s.commitFr r).refused = s.refused := rfl
@[simp] theorem commitFr_ckTx (r : FrRegs) : (s.commitFr r).ckTx = s.ckTx := rfl
@[simp] theorem commitFr_ckRx (r : FrRegs) : (s.commitFr r).ckRx = s.ckRx := rfl
@[simp] theorem commitFr_fr (r : FrRegs) : (s.commitFr r).fr = r := rfl
@[simp] theorem commitFr_ex (r : FrRegs) : (s.commitFr r).ex = s.ex := rfl
@[simp] theorem commitFr_tx (r : FrRegs) : (s.commitFr r).tx = s.tx := rfl
@[simp] theorem commitFr_rx (r : FrRegs) : (s.commitFr r).rx = s.rx := rfl
@[simp] theorem commitFr_arb (r : FrRegs) : (s.commitFr r).arb = s.arb := rfl
@[simp] theorem commitFr_inputs (r : FrRegs) : (s.commitFr r).inputs = s.inputs := rfl
@[simp] theorem commitFr_seen (r : FrRegs) : (s.commitFr r).seen = s.seen := rfl
@[simp] theorem commitFr_events (r : FrRegs) : (s.commitFr r).events = s.events := rfl
@[simp] theorem commitFr_cycle (r : FrRegs) : (s.commitFr r).cycle = s.cycle := rfl
@[simp] theorem commitFr_out_mux (r : FrRegs) : (s.commitFr r).out.mux = s.out.mux := rfl
@[simp] theorem commitFr_out_fr (r : FrRegs) : (s.commitFr r).out.fr = frOut s := rfl
@[simp] theorem commitFr_out_ckTx (r : FrRegs) : (s.commitFr r).out.ckTx = s.out.ckTx := rfl
@[simp] theorem commitFr_out_ckRx (r : FrRegs) : (s.commitFr r).out.ckRx = s.out.ckRx := rfl
@[simp] theorem commitFr_out_tx (r : FrRegs) : (s.commitFr r).out.tx = s.out.tx := rfl
@[simp] theorem commitFr_out_ex (r : FrRegs) : (s.commitFr r).out.ex = s.out.ex := rfl
@[simp] theorem commitFr_out_rx (r : FrRegs) : (s.commitFr r).out.rx = s.out.rx := rfl
@[simp] theorem commitFr_out_dmx (r : FrRegs) : (s.commitFr r).out.dmx = s.out.dmx := rfl

/-! `commitEx`. -/

@[simp] theorem commitEx_cfg (r : ExRegs) : (s.commitEx r).cfg = s.cfg := rfl
@[simp] theorem commitEx_pending (r : ExRegs) : (s.commitEx r).pending = s.pending := rfl
@[simp] theorem commitEx_refused (r : ExRegs) : (s.commitEx r).refused = s.refused := rfl
@[simp] theorem commitEx_ckTx (r : ExRegs) : (s.commitEx r).ckTx = s.ckTx := rfl
@[simp] theorem commitEx_ckRx (r : ExRegs) : (s.commitEx r).ckRx = s.ckRx := rfl
@[simp] theorem commitEx_fr (r : ExRegs) : (s.commitEx r).fr = s.fr := rfl
@[simp] theorem commitEx_ex (r : ExRegs) : (s.commitEx r).ex = r := rfl
@[simp] theorem commitEx_tx (r : ExRegs) : (s.commitEx r).tx = s.tx := rfl
@[simp] theorem commitEx_rx (r : ExRegs) : (s.commitEx r).rx = s.rx := rfl
@[simp] theorem commitEx_arb (r : ExRegs) : (s.commitEx r).arb = s.arb := rfl
@[simp] theorem commitEx_inputs (r : ExRegs) : (s.commitEx r).inputs = s.inputs := rfl
@[simp] theorem commitEx_seen (r : ExRegs) : (s.commitEx r).seen = s.seen := rfl
@[simp] theorem commitEx_events (r : ExRegs) : (s.commitEx r).events = s.events := rfl
@[simp] theorem commitEx_cycle (r : ExRegs) : (s.commitEx r).cycle = s.cycle := rfl
@[simp] theorem commitEx_out_mux (r : ExRegs) : (s.commitEx r).out.mux = s.out.mux := rfl
@[simp] theorem commitEx_out_fr (r : ExRegs) : (s.commitEx r).out.fr = s.out.fr := rfl
@[simp] theorem commitEx_out_ckTx (r : ExRegs) : (s.commitEx r).out.ckTx = s.out.ckTx := rfl
@[simp] theorem commitEx_out_ckRx (r : ExRegs) : (s.commitEx r).out.ckRx = s.out.ckRx := rfl
@[simp] theorem commitEx_out_tx (r : ExRegs) : (s.commitEx r).out.tx = s.out.tx := rfl
@[simp] theorem commitEx_out_ex (r : ExRegs) : (s.commitEx r).out.ex = exOut s := rfl
@[simp] theorem commitEx_out_rx (r : ExRegs) : (s.commitEx r).out.rx = s.out.rx := rfl
@[simp] theorem commitEx_out_dmx (r : ExRegs) : (s.commitEx r).out.dmx = s.out.dmx := rfl

/-! `commitTx`. -/

@[simp] theorem commitTx_cfg (r : TxRegs) : (s.commitTx r).cfg = s.cfg := rfl
@[simp] theorem commitTx_pending (r : TxRegs) : (s.commitTx r).pending = s.pending := rfl
@[simp] theorem commitTx_refused (r : TxRegs) : (s.commitTx r).refused = s.refused := rfl
@[simp] theorem commitTx_ckTx (r : TxRegs) : (s.commitTx r).ckTx = s.ckTx := rfl
@[simp] theorem commitTx_ckRx (r : TxRegs) : (s.commitTx r).ckRx = s.ckRx := rfl
@[simp] theorem commitTx_fr (r : TxRegs) : (s.commitTx r).fr = s.fr := rfl
@[simp] theorem commitTx_ex (r : TxRegs) : (s.commitTx r).ex = s.ex := rfl
@[simp] theorem commitTx_tx (r : TxRegs) : (s.commitTx r).tx = r := rfl
@[simp] theorem commitTx_rx (r : TxRegs) : (s.commitTx r).rx = s.rx := rfl
@[simp] theorem commitTx_arb (r : TxRegs) : (s.commitTx r).arb = s.arb := rfl
@[simp] theorem commitTx_inputs (r : TxRegs) : (s.commitTx r).inputs = s.inputs := rfl
@[simp] theorem commitTx_seen (r : TxRegs) : (s.commitTx r).seen = s.seen := rfl
@[simp] theorem commitTx_events (r : TxRegs) : (s.commitTx r).events = s.events := rfl
@[simp] theorem commitTx_cycle (r : TxRegs) : (s.commitTx r).cycle = s.cycle := rfl
@[simp] theorem commitTx_out_mux (r : TxRegs) : (s.commitTx r).out.mux = s.out.mux := rfl
@[simp] theorem commitTx_out_fr (r : TxRegs) : (s.commitTx r).out.fr = s.out.fr := rfl
@[simp] theorem commitTx_out_ckTx (r : TxRegs) : (s.commitTx r).out.ckTx = s.out.ckTx := rfl
@[simp] theorem commitTx_out_ckRx (r : TxRegs) : (s.commitTx r).out.ckRx = s.out.ckRx := rfl
@[simp] theorem commitTx_out_tx (r : TxRegs) : (s.commitTx r).out.tx = txOut s := rfl
@[simp] theorem commitTx_out_ex (r : TxRegs) : (s.commitTx r).out.ex = s.out.ex := rfl
@[simp] theorem commitTx_out_rx (r : TxRegs) : (s.commitTx r).out.rx = s.out.rx := rfl
@[simp] theorem commitTx_out_dmx (r : TxRegs) : (s.commitTx r).out.dmx = s.out.dmx := rfl

/-! `commitRx`. -/

@[simp] theorem commitRx_cfg (r : RxRegs) : (s.commitRx r).cfg = s.cfg := rfl
@[simp] theorem commitRx_pending (r : RxRegs) : (s.commitRx r).pending = s.pending := rfl
@[simp] theorem commitRx_refused (r : RxRegs) : (s.commitRx r).refused = s.refused := rfl
@[simp] theorem commitRx_ckTx (r : RxRegs) : (s.commitRx r).ckTx = s.ckTx := rfl
@[simp] theorem commitRx_ckRx (r : RxRegs) : (s.commitRx r).ckRx = s.ckRx := rfl
@[simp] theorem commitRx_fr (r : RxRegs) : (s.commitRx r).fr = s.fr := rfl
@[simp] theorem commitRx_ex (r : RxRegs) : (s.commitRx r).ex = s.ex := rfl
@[simp] theorem commitRx_tx (r : RxRegs) : (s.commitRx r).tx = s.tx := rfl
@[simp] theorem commitRx_rx (r : RxRegs) : (s.commitRx r).rx = r := rfl
@[simp] theorem commitRx_arb (r : RxRegs) : (s.commitRx r).arb = s.arb := rfl
@[simp] theorem commitRx_inputs (r : RxRegs) : (s.commitRx r).inputs = s.inputs := rfl
@[simp] theorem commitRx_seen (r : RxRegs) : (s.commitRx r).seen = s.seen := rfl
@[simp] theorem commitRx_events (r : RxRegs) : (s.commitRx r).events = s.events := rfl
@[simp] theorem commitRx_cycle (r : RxRegs) : (s.commitRx r).cycle = s.cycle := rfl
@[simp] theorem commitRx_out_mux (r : RxRegs) : (s.commitRx r).out.mux = s.out.mux := rfl
@[simp] theorem commitRx_out_fr (r : RxRegs) : (s.commitRx r).out.fr = s.out.fr := rfl
@[simp] theorem commitRx_out_ckTx (r : RxRegs) : (s.commitRx r).out.ckTx = s.out.ckTx := rfl
@[simp] theorem commitRx_out_ckRx (r : RxRegs) : (s.commitRx r).out.ckRx = s.out.ckRx := rfl
@[simp] theorem commitRx_out_tx (r : RxRegs) : (s.commitRx r).out.tx = s.out.tx := rfl
@[simp] theorem commitRx_out_ex (r : RxRegs) : (s.commitRx r).out.ex = s.out.ex := rfl
@[simp] theorem commitRx_out_rx (r : RxRegs) : (s.commitRx r).out.rx = rxOut s := rfl
@[simp] theorem commitRx_out_dmx (r : RxRegs) : (s.commitRx r).out.dmx = s.out.dmx := rfl

/-! `commitArb`. -/

@[simp] theorem commitArb_cfg (r : ArbRegs) : (s.commitArb r).cfg = s.cfg := rfl
@[simp] theorem commitArb_pending (r : ArbRegs) : (s.commitArb r).pending = s.pending := rfl
@[simp] theorem commitArb_refused (r : ArbRegs) : (s.commitArb r).refused = s.refused := rfl
@[simp] theorem commitArb_ckTx (r : ArbRegs) : (s.commitArb r).ckTx = s.ckTx := rfl
@[simp] theorem commitArb_ckRx (r : ArbRegs) : (s.commitArb r).ckRx = s.ckRx := rfl
@[simp] theorem commitArb_fr (r : ArbRegs) : (s.commitArb r).fr = s.fr := rfl
@[simp] theorem commitArb_ex (r : ArbRegs) : (s.commitArb r).ex = s.ex := rfl
@[simp] theorem commitArb_tx (r : ArbRegs) : (s.commitArb r).tx = s.tx := rfl
@[simp] theorem commitArb_rx (r : ArbRegs) : (s.commitArb r).rx = s.rx := rfl
@[simp] theorem commitArb_arb (r : ArbRegs) : (s.commitArb r).arb = r := rfl
@[simp] theorem commitArb_inputs (r : ArbRegs) : (s.commitArb r).inputs = s.inputs := rfl
@[simp] theorem commitArb_seen (r : ArbRegs) : (s.commitArb r).seen = s.seen := rfl
@[simp] theorem commitArb_events (r : ArbRegs) : (s.commitArb r).events = s.events := rfl
@[simp] theorem commitArb_cycle (r : ArbRegs) : (s.commitArb r).cycle = s.cycle := rfl
@[simp] theorem commitArb_out_mux (r : ArbRegs) : (s.commitArb r).out.mux = muxOut s := rfl
@[simp] theorem commitArb_out_fr (r : ArbRegs) : (s.commitArb r).out.fr = s.out.fr := rfl
@[simp] theorem commitArb_out_ckTx (r : ArbRegs) : (s.commitArb r).out.ckTx = s.out.ckTx := rfl
@[simp] theorem commitArb_out_ckRx (r : ArbRegs) : (s.commitArb r).out.ckRx = s.out.ckRx := rfl
@[simp] theorem commitArb_out_tx (r : ArbRegs) : (s.commitArb r).out.tx = s.out.tx := rfl
@[simp] theorem commitArb_out_ex (r : ArbRegs) : (s.commitArb r).out.ex = s.out.ex := rfl
@[simp] theorem commitArb_out_rx (r : ArbRegs) : (s.commitArb r).out.rx = s.out.rx := rfl
@[simp] theorem commitArb_out_dmx (r : ArbRegs) : (s.commitArb r).out.dmx = s.out.dmx := rfl

/-! `commitDmx`. -/

@[simp] theorem commitDmx_cfg : (s.commitDmx).cfg = s.cfg := rfl
@[simp] theorem commitDmx_pending : (s.commitDmx).pending = s.pending := rfl
@[simp] theorem commitDmx_refused : (s.commitDmx).refused = s.refused := rfl
@[simp] theorem commitDmx_ckTx : (s.commitDmx).ckTx = s.ckTx := rfl
@[simp] theorem commitDmx_ckRx : (s.commitDmx).ckRx = s.ckRx := rfl
@[simp] theorem commitDmx_fr : (s.commitDmx).fr = s.fr := rfl
@[simp] theorem commitDmx_ex : (s.commitDmx).ex = s.ex := rfl
@[simp] theorem commitDmx_tx : (s.commitDmx).tx = s.tx := rfl
@[simp] theorem commitDmx_rx : (s.commitDmx).rx = s.rx := rfl
@[simp] theorem commitDmx_arb : (s.commitDmx).arb = s.arb := rfl
@[simp] theorem commitDmx_inputs : (s.commitDmx).inputs = s.inputs := rfl
@[simp] theorem commitDmx_seen : (s.commitDmx).seen = s.seen := rfl
@[simp] theorem commitDmx_events : (s.commitDmx).events = s.events := rfl
@[simp] theorem commitDmx_cycle : (s.commitDmx).cycle = s.cycle := rfl
@[simp] theorem commitDmx_out_mux : (s.commitDmx).out.mux = s.out.mux := rfl
@[simp] theorem commitDmx_out_fr : (s.commitDmx).out.fr = s.out.fr := rfl
@[simp] theorem commitDmx_out_ckTx : (s.commitDmx).out.ckTx = s.out.ckTx := rfl
@[simp] theorem commitDmx_out_ckRx : (s.commitDmx).out.ckRx = s.out.ckRx := rfl
@[simp] theorem commitDmx_out_tx : (s.commitDmx).out.tx = s.out.tx := rfl
@[simp] theorem commitDmx_out_ex : (s.commitDmx).out.ex = s.out.ex := rfl
@[simp] theorem commitDmx_out_rx : (s.commitDmx).out.rx = s.out.rx := rfl
@[simp] theorem commitDmx_out_dmx : (s.commitDmx).out.dmx = dmxOut s := rfl

/-! `commitCk_tx`. -/

@[simp] theorem commitCk_tx_cfg (r : CkRegs) : (s.commitCk .tx r).cfg = s.cfg := rfl
@[simp] theorem commitCk_tx_pending (r : CkRegs) : (s.commitCk .tx r).pending = s.pending := rfl
@[simp] theorem commitCk_tx_refused (r : CkRegs) : (s.commitCk .tx r).refused = s.refused := rfl
@[simp] theorem commitCk_tx_ckTx (r : CkRegs) : (s.commitCk .tx r).ckTx = r := rfl
@[simp] theorem commitCk_tx_ckRx (r : CkRegs) : (s.commitCk .tx r).ckRx = s.ckRx := rfl
@[simp] theorem commitCk_tx_fr (r : CkRegs) : (s.commitCk .tx r).fr = s.fr := rfl
@[simp] theorem commitCk_tx_ex (r : CkRegs) : (s.commitCk .tx r).ex = s.ex := rfl
@[simp] theorem commitCk_tx_tx (r : CkRegs) : (s.commitCk .tx r).tx = s.tx := rfl
@[simp] theorem commitCk_tx_rx (r : CkRegs) : (s.commitCk .tx r).rx = s.rx := rfl
@[simp] theorem commitCk_tx_arb (r : CkRegs) : (s.commitCk .tx r).arb = s.arb := rfl
@[simp] theorem commitCk_tx_inputs (r : CkRegs) : (s.commitCk .tx r).inputs = s.inputs := rfl
@[simp] theorem commitCk_tx_seen (r : CkRegs) : (s.commitCk .tx r).seen = s.seen := rfl
@[simp] theorem commitCk_tx_events (r : CkRegs) : (s.commitCk .tx r).events = s.events := rfl
@[simp] theorem commitCk_tx_cycle (r : CkRegs) : (s.commitCk .tx r).cycle = s.cycle := rfl
@[simp] theorem commitCk_tx_out_mux (r : CkRegs) : (s.commitCk .tx r).out.mux = s.out.mux := rfl
@[simp] theorem commitCk_tx_out_fr (r : CkRegs) : (s.commitCk .tx r).out.fr = s.out.fr := rfl
@[simp] theorem commitCk_tx_out_ckTx (r : CkRegs) : (s.commitCk .tx r).out.ckTx = ckOut s .tx := rfl
@[simp] theorem commitCk_tx_out_ckRx (r : CkRegs) : (s.commitCk .tx r).out.ckRx = s.out.ckRx := rfl
@[simp] theorem commitCk_tx_out_tx (r : CkRegs) : (s.commitCk .tx r).out.tx = s.out.tx := rfl
@[simp] theorem commitCk_tx_out_ex (r : CkRegs) : (s.commitCk .tx r).out.ex = s.out.ex := rfl
@[simp] theorem commitCk_tx_out_rx (r : CkRegs) : (s.commitCk .tx r).out.rx = s.out.rx := rfl
@[simp] theorem commitCk_tx_out_dmx (r : CkRegs) : (s.commitCk .tx r).out.dmx = s.out.dmx := rfl

/-! `commitCk_rx`. -/

@[simp] theorem commitCk_rx_cfg (r : CkRegs) : (s.commitCk .rx r).cfg = s.cfg := rfl
@[simp] theorem commitCk_rx_pending (r : CkRegs) : (s.commitCk .rx r).pending = s.pending := rfl
@[simp] theorem commitCk_rx_refused (r : CkRegs) : (s.commitCk .rx r).refused = s.refused := rfl
@[simp] theorem commitCk_rx_ckTx (r : CkRegs) : (s.commitCk .rx r).ckTx = s.ckTx := rfl
@[simp] theorem commitCk_rx_ckRx (r : CkRegs) : (s.commitCk .rx r).ckRx = r := rfl
@[simp] theorem commitCk_rx_fr (r : CkRegs) : (s.commitCk .rx r).fr = s.fr := rfl
@[simp] theorem commitCk_rx_ex (r : CkRegs) : (s.commitCk .rx r).ex = s.ex := rfl
@[simp] theorem commitCk_rx_tx (r : CkRegs) : (s.commitCk .rx r).tx = s.tx := rfl
@[simp] theorem commitCk_rx_rx (r : CkRegs) : (s.commitCk .rx r).rx = s.rx := rfl
@[simp] theorem commitCk_rx_arb (r : CkRegs) : (s.commitCk .rx r).arb = s.arb := rfl
@[simp] theorem commitCk_rx_inputs (r : CkRegs) : (s.commitCk .rx r).inputs = s.inputs := rfl
@[simp] theorem commitCk_rx_seen (r : CkRegs) : (s.commitCk .rx r).seen = s.seen := rfl
@[simp] theorem commitCk_rx_events (r : CkRegs) : (s.commitCk .rx r).events = s.events := rfl
@[simp] theorem commitCk_rx_cycle (r : CkRegs) : (s.commitCk .rx r).cycle = s.cycle := rfl
@[simp] theorem commitCk_rx_out_mux (r : CkRegs) : (s.commitCk .rx r).out.mux = s.out.mux := rfl
@[simp] theorem commitCk_rx_out_fr (r : CkRegs) : (s.commitCk .rx r).out.fr = s.out.fr := rfl
@[simp] theorem commitCk_rx_out_ckTx (r : CkRegs) : (s.commitCk .rx r).out.ckTx = s.out.ckTx := rfl
@[simp] theorem commitCk_rx_out_ckRx (r : CkRegs) : (s.commitCk .rx r).out.ckRx = ckOut s .rx := rfl
@[simp] theorem commitCk_rx_out_tx (r : CkRegs) : (s.commitCk .rx r).out.tx = s.out.tx := rfl
@[simp] theorem commitCk_rx_out_ex (r : CkRegs) : (s.commitCk .rx r).out.ex = s.out.ex := rfl
@[simp] theorem commitCk_rx_out_rx (r : CkRegs) : (s.commitCk .rx r).out.rx = s.out.rx := rfl
@[simp] theorem commitCk_rx_out_dmx (r : CkRegs) : (s.commitCk .rx r).out.dmx = s.out.dmx := rfl

/-! `raise`. -/

@[simp] theorem raise_cfg (c : Cause) (u : UnitName) : (s.raise c u).cfg = s.cfg := rfl
@[simp] theorem raise_pending (c : Cause) (u : UnitName) : (s.raise c u).pending = s.pending := rfl
@[simp] theorem raise_refused (c : Cause) (u : UnitName) : (s.raise c u).refused = s.refused := rfl
@[simp] theorem raise_ckTx (c : Cause) (u : UnitName) : (s.raise c u).ckTx = s.ckTx := rfl
@[simp] theorem raise_ckRx (c : Cause) (u : UnitName) : (s.raise c u).ckRx = s.ckRx := rfl
@[simp] theorem raise_fr (c : Cause) (u : UnitName) : (s.raise c u).fr = s.fr := rfl
@[simp] theorem raise_ex (c : Cause) (u : UnitName) : (s.raise c u).ex = s.ex := rfl
@[simp] theorem raise_tx (c : Cause) (u : UnitName) : (s.raise c u).tx = s.tx := rfl
@[simp] theorem raise_rx (c : Cause) (u : UnitName) : (s.raise c u).rx = s.rx := rfl
@[simp] theorem raise_arb (c : Cause) (u : UnitName) : (s.raise c u).arb = s.arb := rfl
@[simp] theorem raise_inputs (c : Cause) (u : UnitName) : (s.raise c u).inputs = s.inputs := rfl
@[simp] theorem raise_seen (c : Cause) (u : UnitName) : (s.raise c u).seen = s.seen := rfl
@[simp] theorem raise_events (c : Cause) (u : UnitName) : (s.raise c u).events = s.events ++ [⟨c, u, s.cycle⟩] := rfl
@[simp] theorem raise_cycle (c : Cause) (u : UnitName) : (s.raise c u).cycle = s.cycle := rfl
@[simp] theorem raise_out (c : Cause) (u : UnitName) : (s.raise c u).out = s.out := rfl

/-! `begin`. -/

@[simp] theorem begin_cfg : s.begin.cfg = s.cfg := rfl
@[simp] theorem begin_pending : s.begin.pending = s.pending := rfl
@[simp] theorem begin_refused : s.begin.refused = s.refused := rfl
@[simp] theorem begin_ckTx : s.begin.ckTx = s.ckTx := rfl
@[simp] theorem begin_ckRx : s.begin.ckRx = s.ckRx := rfl
@[simp] theorem begin_fr : s.begin.fr = s.fr := rfl
@[simp] theorem begin_ex : s.begin.ex = s.ex := rfl
@[simp] theorem begin_tx : s.begin.tx = s.tx := rfl
@[simp] theorem begin_rx : s.begin.rx = s.rx := rfl
@[simp] theorem begin_arb : s.begin.arb = s.arb := rfl
@[simp] theorem begin_inputs : s.begin.inputs = s.inputs := rfl
@[simp] theorem begin_seen : s.begin.seen = s.seen := rfl
@[simp] theorem begin_events : s.begin.events = [] := rfl
@[simp] theorem begin_cycle : s.begin.cycle = s.cycle := rfl
@[simp] theorem begin_out : s.begin.out = s.out := rfl

/-! `endCycle`. -/

@[simp] theorem endCycle_cfg : s.endCycle.cfg = s.cfg := rfl
@[simp] theorem endCycle_pending : s.endCycle.pending = s.pending := rfl
@[simp] theorem endCycle_refused : s.endCycle.refused = s.refused := rfl
@[simp] theorem endCycle_ckTx : s.endCycle.ckTx = s.ckTx := rfl
@[simp] theorem endCycle_ckRx : s.endCycle.ckRx = s.ckRx := rfl
@[simp] theorem endCycle_fr : s.endCycle.fr = s.fr := rfl
@[simp] theorem endCycle_ex : s.endCycle.ex = s.ex := rfl
@[simp] theorem endCycle_tx : s.endCycle.tx = s.tx := rfl
@[simp] theorem endCycle_rx : s.endCycle.rx = s.rx := rfl
@[simp] theorem endCycle_arb : s.endCycle.arb = s.arb := rfl
@[simp] theorem endCycle_inputs : s.endCycle.inputs = s.inputs.tail := rfl
@[simp] theorem endCycle_seen : s.endCycle.seen = s.curIn := rfl
@[simp] theorem endCycle_events : s.endCycle.events = s.events := rfl
@[simp] theorem endCycle_cycle : s.endCycle.cycle = s.cycle + 1 := rfl
@[simp] theorem endCycle_out : s.endCycle.out = s.out := rfl

/-! `resetRegisters`. -/

@[simp] theorem resetRegisters_cfg : s.resetRegisters.cfg = s.cfg := rfl
@[simp] theorem resetRegisters_pending : s.resetRegisters.pending = s.pending := rfl
@[simp] theorem resetRegisters_refused : s.resetRegisters.refused = s.refused := rfl
@[simp] theorem resetRegisters_ckTx : s.resetRegisters.ckTx = ⟨0, 0⟩ := rfl
@[simp] theorem resetRegisters_ckRx : s.resetRegisters.ckRx = ⟨0, 0⟩ := rfl
@[simp] theorem resetRegisters_fr : s.resetRegisters.fr = ⟨F_IDLE, 0, Header.zero⟩ := rfl
@[simp] theorem resetRegisters_ex : s.resetRegisters.ex = ⟨E_IDLE, 0, false, Header.zero⟩ := rfl
@[simp] theorem resetRegisters_tx : s.resetRegisters.tx = ⟨T_IDLE, 0, 0⟩ := rfl
@[simp] theorem resetRegisters_rx : s.resetRegisters.rx = ⟨R_IDLE⟩ := rfl
@[simp] theorem resetRegisters_arb : s.resetRegisters.arb = ⟨.ofPort s.cfg (s.cfg.nports - 1), false⟩ := rfl
@[simp] theorem resetRegisters_inputs : s.resetRegisters.inputs = s.inputs := rfl
@[simp] theorem resetRegisters_seen : s.resetRegisters.seen = s.seen := rfl
@[simp] theorem resetRegisters_events : s.resetRegisters.events = s.events := rfl
@[simp] theorem resetRegisters_cycle : s.resetRegisters.cycle = s.cycle := rfl
@[simp] theorem resetRegisters_out : s.resetRegisters.out = s.out := rfl

/-! `ck` and `ckHeader`. -/

@[simp] theorem ck_tx : s.ck .tx = s.ckTx := rfl
@[simp] theorem ck_rx : s.ck .rx = s.ckRx := rfl
@[simp] theorem ckHeader_tx : s.ckHeader .tx = s.fr.h := rfl
@[simp] theorem ckHeader_rx : s.ckHeader .rx = s.ex.g := rfl

/-- Beginning a step leaves the inputs of the cycle as they are. -/
@[simp] theorem begin_curIn : s.begin.curIn = s.curIn := rfl

/-- Beginning a step leaves every unit's outputs as they are. -/
@[simp] theorem begin_evaluate : evaluate s.begin = evaluate s := rfl

/-- Beginning a step leaves every select word as it is. -/
@[simp] theorem begin_selWord (t : Table) : selWord s.begin t = selWord s t := by cases t <;> rfl

end Sys2Proof.Machine
end

