-- ==== Sys2Proof/Laws/Cycle.lean ====
section
/-! SUPPORT. The clock cycle: a unit's operation is what `exec` gives it, what each unit performs in a cycle, and what a step
can answer. -/

namespace Sys2Proof.Machine

/-- What a unit performs in a cycle is the meaning `exec` gives its operation. -/
theorem performUnit_eq_exec (t : Table) (s : State) (i : Instr) (h : decode (selWord s t) = .ok i)
    (ht : t ≠ .cfg) (ht' : t ≠ .top) : exec i s = .next (performUnit t s) := by
  simp only [performUnit, h]
  cases t with
  | cfg => exact absurd rfl ht
  | top => exact absurd rfl ht'
  | ck u => simp only [selWord, decode_ck] at h; split_ifs at h <;> cases h <;> rfl
  | fr => simp only [selWord, decode_fr] at h; split_ifs at h <;> cases h <;> rfl
  | ex => simp only [selWord, decode_ex] at h; split_ifs at h <;> cases h <;> rfl
  | tx => simp only [selWord, decode_tx] at h; split_ifs at h <;> cases h <;> rfl
  | rx => simp only [selWord, decode_rx] at h; split_ifs at h <;> cases h <;> rfl
  | arb => simp only [selWord, decode_arb] at h; split_ifs at h <;> cases h <;> rfl
  | dmx => simp only [selWord, decode_dmx] at h; split_ifs at h <;> cases h <;> rfl

/-! What each unit performs, by the conditions of its operations' Operands lines. -/

theorem performUnit_ck (u : CkInst) (s : State) :
    performUnit (.ck u) s =
      if ckResetIn s u then ckReset u s
      else if ckCeIn s u && !ckDone s u then ckAccum u s
      else ckHold u s := by
  simp only [performUnit, selWord, decode_ck, ckSel]; split_ifs <;> rfl

theorem performUnit_fr (s : State) :
    performUnit .fr s =
      if s.fr.state = F_IDLE then
        if (mo s).valid then if (mo s).sop then frLoad s else frSkip s else frIdleWait s
      else if s.fr.state = F_HEADER then
        if frsReady s then if s.fr.idx == 19 then frHdrLast s else frHdr s else frHdrStall s
      else if s.fr.state = F_PAYLOAD then
        if (mo s).valid && frsReady s then if (mo s).eop then frPayEop s else frPay s else frPayStall s
      else frIllegalOp s := by
  simp only [performUnit, selWord, decode_fr, frSel]; split_ifs <;> rfl

theorem performUnit_ex (s : State) :
    performUnit .ex s =
      if s.ex.state = E_IDLE then
        if s.curIn.l2rx.valid then
          if s.curIn.l2rx.sop then if s.curIn.l2rx.eop then exIdleRunt s else exStart s else exSkip s
        else exIdleWait s
      else if s.ex.state = E_HEADER then
        if s.curIn.l2rx.valid then
          if s.curIn.l2rx.eop then exHdrRunt s else if s.ex.cnt == 19 then exHdrLast s else exHdr s
        else exHdrWait s
      else if s.ex.state = E_PAYLOAD then
        if s.curIn.l2rx.valid && exsReady s then if s.curIn.l2rx.eop then exPayEop s else exPay s
        else exPayStall s
      else exIllegalOp s := by
  simp only [performUnit, selWord, decode_ex, exSel]; split_ifs <;> rfl

theorem performUnit_tx (s : State) :
    performUnit .tx s =
      if s.tx.state = T_IDLE then
        if (frs s).valid && (frs s).sop && ckDone s .tx then txStart s else txIdleWait s
      else if s.tx.state = T_REQUEST then if s.curIn.arqReady then txReqAccept s else txReqWait s
      else if s.tx.state = T_AWAIT then
        if s.curIn.ars.valid then if s.curIn.ars.failed then txUnresolved s else txResolved s
        else txAwaitWait s
      else if s.tx.state = T_SEND then
        if (frs s).valid && s.curIn.l2txReady then if (frs s).eop then txSendEop s else txSendBeat s
        else txSendStall s
      else if s.tx.state = T_DROP then
        if (frs s).valid then if (frs s).eop then txDropEop s else txDropBeat s else txDropWait s
      else txIllegal s := by
  simp only [performUnit, selWord, decode_tx, txSel]; split_ifs <;> rfl

theorem performUnit_rx (s : State) :
    performUnit .rx s =
      if s.rx.state = R_IDLE then if (exs s).valid && (exs s).sop then rxStart s else rxIdleWait s
      else if s.rx.state = R_CHECK then
        if ckDone s .rx then if hdrOk s then rxAccept s else rxReject s else rxCheckWait s
      else if s.rx.state = R_PRESENT then
        if (exs s).valid && rxoReady s then if (exs s).eop then rxPresentEop s else rxPresentBeat s
        else rxPresentStall s
      else if (exs s).valid then if (exs s).eop then rxDropEop s else rxDropBeat s
      else rxDropWait s := by
  simp only [performUnit, selWord, decode_rx, rxSel]; split_ifs <;> rfl

theorem performUnit_arb (s : State) :
    performUnit .arb s =
      if s.arb.busy then
        if (mo s).valid && moReady s then if (mo s).eop then xbMuxEop s else xbMuxBeat s else xbMuxStall s
      else if anyReq s then xbArbGrant s else xbArbIdle s := by
  simp only [performUnit, selWord, decode_arb, arbSel]; split_ifs <;> rfl

theorem performUnit_dmx (s : State) :
    performUnit .dmx s =
      if (rxo s).valid then if mOk s then if mReady s then xbDmxDeliver s else xbDmxStall s else xbDmxDiscard s
      else xbDmxIdle s := by
  simp only [performUnit, selWord, decode_dmx, dmxSel]; split_ifs <;> rfl

/-! What a step can answer. -/

/-- A step that answers a next state is a registration, a reset cycle or a running cycle. -/
theorem step_cases {s t : State} (h : step s = .next t) :
    s.refused = false ∧
      ((s.pending ≠ [] ∧ isDup s = true ∧ exec .xbRegisterDup s = .next t) ∨
       (s.pending ≠ [] ∧ isDup s = false ∧ exec .xbRegister s = .next t) ∨
       (s.pending = [] ∧ s.cfg.legal = true ∧ s.curIn.rst = true ∧ t = resetCycle s) ∨
       (s.pending = [] ∧ s.cfg.legal = true ∧ s.curIn.rst = false ∧ t = runCycle s)) := by
  unfold step fetch at h
  by_cases hr : s.refused
  · simp [hr] at h
  by_cases hp : s.pending = []
  · by_cases hl : s.cfg.legal
    · simp only [hr, hp, hl, fetchFrom, selWord, decode_top] at h
      cases hrst : s.curIn.rst
      · simp [hrst, exec, execRun] at h
        simp_all
      · simp [hrst, exec, execReset] at h
        simp_all
    · simp [hr, hp, hl] at h
  · simp only [hr, fetchFrom, selWord, decode_cfg] at h
    cases hd : isDup s
    · simp [hp, hd] at h; simp_all
    · simp [hp, hd] at h; simp_all

end Sys2Proof.Machine
end

