-- ==== Sys2Proof/Laws/Ops.lean ====
section
/-! SUPPORT. What each shared operation does, once: header reads and writes, the checksum arithmetic, the rotation, the port
match, and the raising of an event. -/

namespace Sys2Proof.Machine

/-! Header access (20_memory.md R63). -/

/-- A byte of a header after one byte of it is written. -/
theorem putByte_getElem (X : Header) (i j : Nat) (v : Byte) (hi : i < 20) (hj : j < 20) :
    (putByte X i v hi)[j] = if i = j then v else X[j] := by
  unfold putByte; rw [Vector.getElem_set]

/-- A byte of a header after two bytes of it are written. -/
theorem put16_getElem (X : Header) (i j : Nat) (v : Half) (hi : i + 1 < 20) (hj : j < 20) :
    (put16 X i v hi)[j] =
      if i + 1 = j then v.extractLsb' 0 8 else if i = j then v.extractLsb' 8 8 else X[j] := by
  unfold put16; rw [Vector.getElem_set, Vector.getElem_set]

/-- A byte of a header after four bytes of it are written. -/
theorem put32_getElem (X : Header) (i j : Nat) (v : Ip) (hi : i + 3 < 20) (hj : j < 20) :
    (put32 X i v hi)[j] =
      if i + 3 = j then v.extractLsb' 0 8 else if i + 2 = j then v.extractLsb' 8 8
      else if i + 1 = j then v.extractLsb' 16 8 else if i = j then v.extractLsb' 24 8 else X[j] := by
  unfold put32; rw [Vector.getElem_set, Vector.getElem_set, Vector.getElem_set, Vector.getElem_set]

/-- A 16-bit read is the value of its two bytes, the first one the higher. -/
theorem be16_toNat (X : Header) (i : Nat) (h : i + 1 < 20) :
    (be16 X i h).toNat = X[i].toNat * 256 + X[i + 1].toNat := by
  unfold be16
  rw [BitVec.toNat_append, Nat.shiftLeft_eq, Nat.mul_comm, ← Nat.two_pow_add_eq_or_of_lt X[i + 1].isLt, Nat.mul_comm]

/-- A 16-bit read gives back a 16-bit write at the same offset. -/
theorem be16_put16 (X : Header) (i : Nat) (v : Half) (h : i + 1 < 20) : be16 (put16 X i v h) i h = v := by
  apply BitVec.eq_of_toNat_eq
  have hv := v.isLt
  rw [be16_toNat, put16_getElem, put16_getElem, if_neg (by omega), if_pos rfl, if_pos rfl,
    BitVec.extractLsb'_toNat, BitVec.extractLsb'_toNat, Nat.shiftRight_eq_div_pow, Nat.shiftRight_eq_div_pow]
  norm_num at *
  omega

/-! Checksum arithmetic (41_checksum.md R130 to R133). -/

/-- One's-complement addition as a number: the carry of the 17-bit sum comes back as 1. -/
theorem foldAdd_toNat (a b : Half) :
    (foldAdd a b).toNat =
      if a.toNat + b.toNat < 65536 then a.toNat + b.toNat else a.toNat + b.toNat - 65535 := by
  have ha := a.isLt
  have hb := b.isLt
  simp only [foldAdd, BitVec.toNat_add, BitVec.extractLsb'_toNat, BitVec.truncate_eq_setWidth,
    BitVec.toNat_setWidth, Nat.shiftRight_eq_div_pow]
  norm_num at *
  split <;> omega

/-- Folding over two lists one after the other. -/
theorem foldFrom_append (a : Half) (xs ys : List Half) : foldFrom a (xs ++ ys) = foldFrom (foldFrom a xs) ys := by
  simp [foldFrom]

/-- The words of the batches before `k + 1` are those before `k` and then batch `k`. -/
theorem take_batch (c : Config) (u : CkInst) (k : Nat) :
    (wordList u).take ((k + 1) * c.wpc) = (wordList u).take (k * c.wpc) ++ batch c u k := by
  rw [batch, Nat.succ_mul, List.take_add]

/-! The grant register (10_state.md R36). -/

/-- `ceilLog2` is wide enough for the indices below `n`. -/
theorem le_two_pow_ceilLog2 (n : Nat) : n ≤ 2 ^ ceilLog2 n := by
  unfold ceilLog2
  split
  · simpa
  · have := Nat.lt_log2_self (n := n - 1)
    omega

/-- The grant register of a configuration has room for every port. -/
theorem nports_le_grantWidth (c : Config) : c.nports ≤ 2 ^ grantWidth c :=
  (le_two_pow_ceilLog2 _).trans (Nat.pow_le_pow_right (by decide) (Nat.le_max_right _ _))

@[simp] theorem ofPort_width (c : Config) (k : Nat) : (GrantReg.ofPort c k).width = grantWidth c := rfl

/-- A grant register names the port it was written for. -/
theorem ofPort_index {c : Config} {k : Nat} (h : k < c.nports) : (GrantReg.ofPort c k).index = k := by
  have := nports_le_grantWidth c
  exact Nat.mod_eq_of_lt (by omega)

/-- With no port yet, or at the last one, the reset value of the grant register is `NPORTS-1`. -/
theorem ofPort_last (c : Config) : (GrantReg.ofPort c (c.nports - 1)).index = c.nports - 1 := by
  have := nports_le_grantWidth c
  have := Nat.two_pow_pos (grantWidth c)
  exact Nat.mod_eq_of_lt (by omega)

/-! The rotation and the port match (46_crossbar.md R304, R310). -/

/-- The port the rotation gives exists and requests. -/
theorem nextGrant_some {s : State} {g k : Nat} (h : nextGrant s g = some k) :
    k < s.cfg.nports ∧ (s.utxAt k).valid = true := by
  have hv := List.find?_some h
  have hm := List.mem_of_find?_eq_some h
  obtain ⟨j, hj, rfl⟩ := List.mem_map.1 hm
  exact ⟨Nat.mod_lt _ (by have := List.mem_range.1 hj; omega), hv⟩

/-- A beat that is presented is unchanged, and what is presented is all 0 unless it is valid. -/
theorem presented_cases (b : SubBeat) :
    (b.valid = true ∧ presented b = b) ∨ (b.valid = false ∧ presented b = {}) := by
  unfold presented
  cases h : b.valid <;> simp

/-- A port that presents no beat presents 0 on every signal. -/
theorem utxAt_invalid {s : State} {k : Nat} (h : (s.utxAt k).valid = false) : s.utxAt k = {} := by
  unfold State.utxAt at *
  split
  · rename_i hk
    rw [if_pos hk] at h
    obtain ⟨hv, hb⟩ | ⟨-, hb⟩ := presented_cases (s.curIn.utx.getD k {})
    · rw [hb, hv] at h; cases h
    · exact hb
  · rfl

/-- Only a port that exists can present a beat. -/
theorem lt_nports_of_utxAt {s : State} {k : Nat} (h : (s.utxAt k).valid = true) : k < s.cfg.nports := by
  unfold State.utxAt at h
  split at h
  · assumption
  · cases h

/-- A port that matches a protocol number exists and is registered for it. -/
theorem portOf_some {c : Config} {p : Byte} {k : Nat} (h : portOf c p = some k) :
    ∃ hk : k < c.proto.length, c.proto[k] = p := by
  obtain ⟨hk, hp, -⟩ := List.findIdx?_eq_some_iff_getElem.1 h
  exact ⟨hk, by simpa using hp⟩

/-- No port matches exactly when the protocol number is not registered. -/
theorem portOf_none {c : Config} {p : Byte} : portOf c p = none ↔ p ∉ c.proto := by
  simp [portOf, List.findIdx?_eq_none_iff]
  exact ⟨fun h hp => h p hp rfl, fun h q hq e => h (e ▸ hq)⟩

/-! Raising an event (60_exceptions.md R380). -/

/-- Raising an event adds its record and changes nothing else. -/
theorem raise_eq (s : State) (c : Cause) (u : UnitName) :
    s.raise c u = { s with events := s.events ++ [⟨c, u, s.cycle⟩] } := rfl

/-- The inputs of a cycle are the oldest listed ones. -/
@[simp] theorem curIn_cons (s : State) (i : Inputs) (is : List Inputs) :
    ({ s with inputs := i :: is } : State).curIn = i := rfl

end Sys2Proof.Machine
end

