-- ==== Sys2Proof/Laws/Run.lean ====
section
/-! SUPPORT. What one running cycle does to each unit's registers, and what it drives: one lemma per unit, cited instead of
unfolding the cycle (47_top_level.md R351). -/

namespace Sys2Proof.Machine

variable (s : State)

@[simp] theorem runCycle_cfg : (runCycle s).cfg = s.cfg := rfl
@[simp] theorem runCycle_pending : (runCycle s).pending = s.pending := rfl
@[simp] theorem runCycle_refused : (runCycle s).refused = s.refused := rfl
@[simp] theorem runCycle_inputs : (runCycle s).inputs = s.inputs.tail := rfl
@[simp] theorem runCycle_seen : (runCycle s).seen = s.curIn := rfl
@[simp] theorem runCycle_cycle : (runCycle s).cycle = s.cycle + 1 := rfl

/-- A checksum engine's registers after a cycle (41_checksum.md R136 to R138). -/
def ckNext (u : CkInst) : CkRegs :=
  if ckResetIn s u then { acc := 0, cnt := 0 }
  else if ckCeIn s u && !ckDone s u then
    if (s.ck u).cnt.toNat < numBatches s.cfg u then
      { acc := foldFrom (s.ck u).acc ((batch s.cfg u (s.ck u).cnt.toNat).map (headerWord (s.ckHeader u))),
        cnt := (s.ck u).cnt + 1 }
    else s.ck u
  else s.ck u

theorem ckAccum_regs (u : CkInst) : (ckAccum u s).ck u =
    if (s.ck u).cnt.toNat < numBatches s.cfg u then
      { acc := foldFrom (s.ck u).acc ((batch s.cfg u (s.ck u).cnt.toNat).map (headerWord (s.ckHeader u))),
        cnt := (s.ck u).cnt + 1 }
    else s.ck u := by
  unfold ckAccum; cases u <;> split <;> rfl

theorem performUnit_ck_regs (u : CkInst) : (performUnit (.ck u) s).ck u = ckNext s u := by
  rw [performUnit_ck, ckNext, ← ckAccum_regs]
  split_ifs <;> cases u <;> rfl

theorem runCycle_ckTx : (runCycle s).ckTx = ckNext s .tx := performUnit_ck_regs s.begin .tx

theorem runCycle_ckRx : (runCycle s).ckRx = ckNext s .rx := performUnit_ck_regs s.begin .rx

/-- The framer's registers after a cycle (42_framer.md R163 to R172). -/
def frNext : FrRegs :=
  if s.fr.state = F_IDLE then
    if (mo s).valid && (mo s).sop then
      { state := F_HEADER, idx := 0, h := assemble s.cfg (mo s).dstIp (mo s).protocol (mo s).length }
    else s.fr
  else if s.fr.state = F_HEADER then
    if frsReady s then
      if s.fr.idx == 19 then { s.fr with state := F_PAYLOAD }
      else if frIllegal s.fr then s.fr else { s.fr with idx := s.fr.idx + 1 }
    else s.fr
  else if s.fr.state = F_PAYLOAD then
    if (mo s).valid && frsReady s && (mo s).eop then { s.fr with state := F_IDLE } else s.fr
  else s.fr

theorem performUnit_fr_regs : (performUnit .fr s).fr = frNext s := by
  rw [performUnit_fr, frNext]
  split_ifs <;>
    simp_all [frLoad, frSkip, frIdleWait, frHdrLast, frHdr, frHdrStall, frPayEop, frPay, frPayStall, frIllegalOp,
      frFault]
  all_goals split <;> rfl

theorem runCycle_fr : (runCycle s).fr = frNext s := performUnit_fr_regs s.begin

/-- The extractor's registers after a cycle (43_extractor.md R192 to R203). -/
def exNext : ExRegs :=
  if s.ex.state = E_IDLE then
    if s.curIn.l2rx.valid && s.curIn.l2rx.sop && !s.curIn.l2rx.eop then
      { s.ex with g := putByte s.ex.g 0 s.curIn.l2rx.data, cnt := 1, state := E_HEADER }
    else s.ex
  else if s.ex.state = E_HEADER then
    if s.curIn.l2rx.valid then
      if !s.curIn.l2rx.eop && s.ex.cnt == 19 then
        { s.ex with g := putByte s.ex.g 19 s.curIn.l2rx.data, first := true, state := E_PAYLOAD }
      else if exIllegal s.ex then s.ex
      else if s.curIn.l2rx.eop then
        { s.ex with g := storeByte s.ex.g s.ex.cnt s.curIn.l2rx.data, state := E_IDLE }
      else { s.ex with g := storeByte s.ex.g s.ex.cnt s.curIn.l2rx.data, cnt := s.ex.cnt + 1 }
    else s.ex
  else if s.ex.state = E_PAYLOAD then
    if s.curIn.l2rx.valid && exsReady s then
      if s.curIn.l2rx.eop then { s.ex with first := false, state := E_IDLE } else { s.ex with first := false }
    else s.ex
  else s.ex

theorem performUnit_ex_regs : (performUnit .ex s).ex = exNext s := by
  rw [performUnit_ex, exNext]
  split_ifs <;>
    simp_all [exIdleRunt, exStart, exSkip, exIdleWait, exHdrRunt, exHdrLast, exHdr, exHdrWait, exPayEop, exPay,
      exPayStall, exIllegalOp, exFault]
  all_goals split <;> rfl

theorem runCycle_ex : (runCycle s).ex = exNext s := performUnit_ex_regs s.begin

/-- The transmit pipeline's registers after a cycle (44_tx_pipeline.md R221 to R234). -/
def txNext : TxRegs :=
  if s.tx.state = T_IDLE then
    if (frs s).valid && (frs s).sop && ckDone s .tx then
      { s.tx with reqIp := be32 s.fr.h 16, state := T_REQUEST }
    else s.tx
  else if s.tx.state = T_REQUEST then
    if s.curIn.arqReady then { s.tx with state := T_AWAIT } else s.tx
  else if s.tx.state = T_AWAIT then
    if s.curIn.ars.valid then
      if s.curIn.ars.failed then { s.tx with state := T_DROP }
      else { s.tx with mac := s.curIn.ars.mac, state := T_SEND }
    else s.tx
  else if s.tx.state = T_SEND then
    if (frs s).valid && s.curIn.l2txReady && (frs s).eop then { s.tx with state := T_IDLE } else s.tx
  else if s.tx.state = T_DROP then
    if (frs s).valid && (frs s).eop then { s.tx with state := T_IDLE } else s.tx
  else s.tx

theorem performUnit_tx_regs : (performUnit .tx s).tx = txNext s := by
  rw [performUnit_tx, txNext]
  split_ifs <;>
    simp_all [txStart, txIdleWait, txReqAccept, txReqWait, txUnresolved, txResolved, txAwaitWait, txSendEop,
      txSendBeat, txSendStall, txDropEop, txDropBeat, txDropWait, txIllegal, txFault, TxRegs.leaveDrop]

theorem runCycle_tx : (runCycle s).tx = txNext s := performUnit_tx_regs s.begin

/-- The receive pipeline's register after a cycle (45_rx_pipeline.md R262 to R272). -/
def rxNext : RxRegs :=
  if s.rx.state = R_IDLE then
    if (exs s).valid && (exs s).sop then { state := R_CHECK } else s.rx
  else if s.rx.state = R_CHECK then
    if ckDone s .rx then if hdrOk s then { state := R_PRESENT } else { state := R_DROP } else s.rx
  else if s.rx.state = R_PRESENT then
    if (exs s).valid && rxoReady s && (exs s).eop then { state := R_IDLE } else s.rx
  else if (exs s).valid && (exs s).eop then { state := R_IDLE } else s.rx

theorem performUnit_rx_regs : (performUnit .rx s).rx = rxNext s := by
  rw [performUnit_rx, rxNext]
  split_ifs <;>
    simp_all [rxStart, rxIdleWait, rxAccept, rxReject, rxCheckWait, rxPresentEop, rxPresentBeat, rxPresentStall,
      rxDropEop, rxDropBeat, rxDropWait, RxRegs.leaveDrop]

theorem runCycle_rx : (runCycle s).rx = rxNext s := performUnit_rx_regs s.begin

/-- The multiplexer's registers after a cycle (46_crossbar.md R305 to R309). -/
def arbNext : ArbRegs :=
  if s.arb.busy then
    if (mo s).valid && moReady s && (mo s).eop then { s.arb with busy := false } else s.arb
  else if anyReq s then 
    { grant := ((nextGrant s s.arb.grant.index).map (GrantReg.ofPort s.cfg)).getD s.arb.grant, busy := true }
  else s.arb

theorem performUnit_arb_regs : (performUnit .arb s).arb = arbNext s := by
  rw [performUnit_arb, arbNext]
  split_ifs <;>
    simp_all [xbArbGrant, xbArbIdle, xbMuxEop, xbMuxBeat, xbMuxStall]

theorem runCycle_arb : (runCycle s).arb = arbNext s := performUnit_arb_regs s.begin

/-- What a running cycle drives is what the outputs rules give for the registers and the inputs before the edge (47_top_level.md R349,
R350). -/
theorem runCycle_out : (runCycle s).out = evaluate s := by
  have ht : (performUnit (.ck .tx) s.begin).out.ckTx = ckOut s .tx := by
    rw [performUnit_ck]; split_ifs <;> first | rfl | (unfold ckAccum; split <;> rfl)
  have hr : (performUnit (.ck .rx) s.begin).out.ckRx = ckOut s .rx := by
    rw [performUnit_ck]; split_ifs <;> first | rfl | (unfold ckAccum; split <;> rfl)
  have hf : (performUnit .fr s.begin).out.fr = frOut s := by
    rw [performUnit_fr]
    split_ifs <;> first | rfl | (simp only [frHdr, frHdrStall]; split_ifs <;> rfl)
  have he : (performUnit .ex s.begin).out.ex = exOut s := by
    rw [performUnit_ex]
    split_ifs <;> first | rfl | (simp only [exHdr, exHdrRunt, exHdrWait]; split_ifs <;> rfl)
  have hx : (performUnit .tx s.begin).out.tx = txOut s := by rw [performUnit_tx]; split_ifs <;> rfl
  have hq : (performUnit .rx s.begin).out.rx = rxOut s := by rw [performUnit_rx]; split_ifs <;> rfl
  have hm : (performUnit .arb s.begin).out.mux = muxOut s := by rw [performUnit_arb]; split_ifs <;> rfl
  have hd : (performUnit .dmx s.begin).out.dmx = dmxOut s := by
    rw [performUnit_dmx]
    split_ifs <;> first | rfl | (simp only [xbDmxDiscard]; split_ifs <;> rfl)
  show ({ mux := (performUnit .arb s.begin).out.mux, fr := (performUnit .fr s.begin).out.fr,
          ckTx := (performUnit (.ck .tx) s.begin).out.ckTx, ckRx := (performUnit (.ck .rx) s.begin).out.ckRx,
          tx := (performUnit .tx s.begin).out.tx, ex := (performUnit .ex s.begin).out.ex,
          rx := (performUnit .rx s.begin).out.rx, dmx := (performUnit .dmx s.begin).out.dmx } : Outputs) = _
  rw [ht, hr, hf, he, hx, hq, hm, hd]; rfl

/-! What a reset cycle leaves (70_reset_and_hazards.md R400 to R402). -/

@[simp] theorem resetCycle_cfg : (resetCycle s).cfg = s.cfg := rfl
@[simp] theorem resetCycle_pending : (resetCycle s).pending = s.pending := rfl
@[simp] theorem resetCycle_refused : (resetCycle s).refused = s.refused := rfl
@[simp] theorem resetCycle_ckTx : (resetCycle s).ckTx = ⟨0, 0⟩ := rfl
@[simp] theorem resetCycle_ckRx : (resetCycle s).ckRx = ⟨0, 0⟩ := rfl
@[simp] theorem resetCycle_fr : (resetCycle s).fr = ⟨F_IDLE, 0, Header.zero⟩ := rfl
@[simp] theorem resetCycle_ex : (resetCycle s).ex = ⟨E_IDLE, 0, false, Header.zero⟩ := rfl
@[simp] theorem resetCycle_tx : (resetCycle s).tx = ⟨T_IDLE, 0, 0⟩ := rfl
@[simp] theorem resetCycle_rx : (resetCycle s).rx = ⟨R_IDLE⟩ := rfl
@[simp] theorem resetCycle_arb : (resetCycle s).arb = ⟨.ofPort s.cfg (s.cfg.nports - 1), false⟩ := rfl
@[simp] theorem resetCycle_out : (resetCycle s).out = Outputs.zero s.cfg.nports := rfl
@[simp] theorem resetCycle_events : (resetCycle s).events = [] := rfl

end Sys2Proof.Machine
end

