-- ==== Sys2Proof/Laws/Outputs.lean ====
section
/-! SUPPORT. When a stream inside the block is valid and what its markers then say of the registers, what the crossbar drives for
each match, when an engine rests, and which step a running cycle is. -/

namespace Sys2Proof.Machine

open Sys2Proof.Safety

variable {s : State}

/-! The framer's and the extractor's streams (42_framer.md R162, 43_extractor.md R191). -/

/-- The sop beat on `FRS` is header byte 0. -/
theorem frs_sop (h : (frs s).sop = true) : s.fr.state = F_HEADER ∧ s.fr.idx = 0 := by
  unfold frs at h
  split at h
  · split at h
    · exact ⟨by assumption, by simpa using h⟩
    · cases h
  · split at h
    · split at h <;> cases h
    · cases h

/-- The eop beat on `FRS` is the eop beat on `MO`, in the payload phase. -/
theorem frs_eop (h : (frs s).eop = true) : s.fr.state = F_PAYLOAD ∧ (mo s).valid = true ∧ (mo s).eop = true := by
  unfold frs at h
  split at h
  · split at h <;> cases h
  · split at h
    · split at h
      · exact ⟨by assumption, by assumption, h⟩
      · cases h
    · cases h

/-- An idle framer presents nothing. -/
theorem frs_idle (h : s.fr.state = F_IDLE) : frs s = {} := by
  unfold frs
  rw [h, if_neg (by decide), if_neg (by decide)]

/-- A beat on `EXS` is the beat on `L2RX`, in the payload phase. -/
theorem exs_valid (h : (exs s).valid = true) :
    s.ex.state = E_PAYLOAD ∧ s.curIn.l2rx.valid = true ∧ (exs s).eop = s.curIn.l2rx.eop ∧ (exs s).sop = s.ex.first := by
  unfold exs at *
  split at h
  · rename_i h'
    rw [if_pos h']
    exact ⟨h'.1, h'.2, rfl, rfl⟩
  · cases h

/-! The receive pipeline's stream and the demultiplexer (45_rx_pipeline.md R261, 46_crossbar.md R310). -/

/-- A beat on `RXO` is a beat on `EXS`, being presented. -/
theorem rxo_valid (h : (rxo s).valid = true) : s.rx.state = R_PRESENT ∧ (exs s).valid = true := by
  unfold rxo at h
  split at h
  · assumption
  · cases h

/-- A beat that is not valid is all zero. -/
theorem rxo_invalid (h : (rxo s).valid = false) : rxo s = {} := by
  unfold rxo at *
  split at h
  · cases h
  · rename_i h'
    rw [if_neg h']

/-- While `RXO` carries a beat, the sideband that picks the port is that beat's. -/
theorem matchProtocol_of_valid (h : (rxo s).valid = true) : matchProtocol s = (rxo s).protocol := by
  have hp := rxo_valid h
  rw [matchProtocol, if_pos hp.1, rxo, if_pos hp]

/-- While `RXO` carries a beat, the port that `DMXSEL` reads is the one that takes the beat. -/
theorem beatPort_of_valid (h : (rxo s).valid = true) : beatPort s = matchedPort s := by
  rw [beatPort, matchedPort, matchProtocol_of_valid h]

/-- `MO` is all 0 when it is not valid. -/
theorem mo_invalid (h : (mo s).valid = false) : mo s = {} := by
  unfold mo at *
  split
  · rename_i hb
    rw [if_pos hb] at h
    exact utxAt_invalid h
  · rfl

/-- With a match, that port and no other carries the beat. -/
theorem urx_of_some {m : Nat} (h : matchedPort s = some m) :
    urx s = (List.range s.cfg.nports).map (fun k => if k = m then rxo s else {}) := by
  unfold urx
  refine List.map_congr_left fun k _ => ?_
  simp [urxAt, h, eq_comm]

/-- Without a match, no port carries a beat. -/
theorem urx_of_none (h : matchedPort s = none) : urx s = List.replicate s.cfg.nports {} := by
  unfold urx
  rw [List.map_congr_left (g := fun _ => ({} : DelBeat)) fun k _ => by simp [urxAt, h]]
  simp

/-- A free multiplexer is ready for no port. -/
theorem utxReady_free (h : s.arb.busy = false) : utxReady s = List.replicate s.cfg.nports false := by
  unfold utxReady
  rw [List.map_congr_left (g := fun _ => false) fun k _ => by simp [utxReadyAt, h]]
  simp

/-! The checksum engines (41_checksum.md R133, R138). -/

/-- No instance has more than ten batches, so its counter has room to count them. -/
theorem numBatches_le {c : Config} (h : c.legal = true) (u : CkInst) : numBatches c u ≤ 10 := by
  simp only [Config.legal, Bool.and_eq_true, decide_eq_true_eq] at h
  have hl : (wordList u).length ≤ 10 := by cases u <;> decide
  exact Nat.div_le_of_le_mul (by omega)

/-- A done engine keeps its registers until it is reset. -/
theorem ckNext_done (u : CkInst) (hr : ckResetIn s u = false) (h : ckDone s u = true) : ckNext s u = s.ck u := by
  simp [ckNext, hr, h]

/-! The step. -/

/-- A running step is a running cycle. -/
theorem step_running {t : State} (hr : Running s) (h : step s = .next t) : t = runCycle s := by
  obtain ⟨-, h | h | h | h⟩ := step_cases h
  · exact absurd hr.built h.1
  · exact absurd hr.built h.1
  · exact absurd (hr.notReset.symm.trans h.2.2.1) (by decide)
  · exact h.2.2.2

end Sys2Proof.Machine
end

