-- ==== Sys2Proof/Laws/PerInstr.lean ====
section
/-! SUPPORT. One lemma per operation: the select word its encoder writes matches the operation's own row of
spec/opcode_table.json (30_encoding.md R114 to R120). -/

namespace Sys2Proof

/-- The bits of a select word as a number. -/
def SelWord.value : SelWord → Nat
  | .ck _ w => w.toNat
  | .fr w => w.toNat
  | .ex w => w.toNat
  | .tx w => w.toNat
  | .rx w => w.toNat
  | .arb w => w.toNat
  | .dmx w => w.toNat
  | .cfg w => w.toNat
  | .top w => w.toNat

/-- The match and the mask of the operation's row. -/
def Instr.row : Instr → Nat × Nat
  | .ckReset _ _ => (0x4, 0x4)
  | .ckAccum _ => (0x2, 0x7)
  | .ckHold _ _ => (0x0, 0x0)
  | .frLoad _ => (0xC, 0x6C)
  | .frSkip _ => (0x8, 0x6C)
  | .frIdleWait _ => (0x0, 0x60)
  | .frHdrLast _ => (0x31, 0x71)
  | .frHdr _ => (0x21, 0x71)
  | .frHdrStall _ => (0x20, 0x60)
  | .frPayEop _ => (0x4B, 0x6B)
  | .frPay _ => (0x49, 0x6B)
  | .frPayStall _ => (0x40, 0x60)
  | .frIllegal _ => (0x60, 0x60)
  | .exIdleRunt _ => (0xE, 0x6E)
  | .exStart _ => (0xC, 0x6E)
  | .exSkip _ => (0x8, 0x6C)
  | .exIdleWait _ => (0x0, 0x60)
  | .exHdrRunt _ => (0x2A, 0x6A)
  | .exHdrLast _ => (0x38, 0x7A)
  | .exHdr _ => (0x28, 0x7A)
  | .exHdrWait _ => (0x20, 0x60)
  | .exPayEop _ => (0x4B, 0x6B)
  | .exPay _ => (0x49, 0x6B)
  | .exPayStall _ => (0x40, 0x60)
  | .exIllegal _ => (0x60, 0x60)
  | .txStart _ => (0xD0, 0x7D0)
  | .txIdleWait _ => (0x0, 0x700)
  | .txReqAccept _ => (0x108, 0x708)
  | .txReqWait _ => (0x100, 0x700)
  | .txUnresolved _ => (0x206, 0x706)
  | .txResolved _ => (0x204, 0x706)
  | .txAwaitWait _ => (0x200, 0x700)
  | .txSendEop _ => (0x3A1, 0x7A1)
  | .txSendBeat _ => (0x381, 0x7A1)
  | .txSendStall _ => (0x300, 0x700)
  | .txDropEop _ => (0x4A0, 0x7A0)
  | .txDropBeat _ => (0x480, 0x7A0)
  | .txDropWait _ => (0x400, 0x700)
  | .txIllegal _ => (0x400, 0x400)
  | .rxStart _ => (0x30, 0xF0)
  | .rxIdleWait _ => (0x0, 0xC0)
  | .rxAccept _ => (0x46, 0xC6)
  | .rxReject _ => (0x44, 0xC6)
  | .rxCheckWait _ => (0x40, 0xC0)
  | .rxPresentEop _ => (0xA9, 0xE9)
  | .rxPresentBeat _ => (0xA1, 0xE9)
  | .rxPresentStall _ => (0x80, 0xC0)
  | .rxDropEop _ => (0xE8, 0xE8)
  | .rxDropBeat _ => (0xE0, 0xE8)
  | .rxDropWait _ => (0xC0, 0xC0)
  | .xbArbGrant _ => (0x8, 0x18)
  | .xbArbIdle _ => (0x0, 0x10)
  | .xbMuxEop _ => (0x17, 0x17)
  | .xbMuxBeat _ => (0x16, 0x17)
  | .xbMuxStall _ => (0x10, 0x10)
  | .xbDmxDeliver => (0x7, 0x7)
  | .xbDmxStall => (0x6, 0x7)
  | .xbDmxDiscard _ => (0x4, 0x6)
  | .xbDmxIdle _ => (0x0, 0x4)
  | .xbRegisterDup => (0x1, 0x1)
  | .xbRegister => (0x0, 0x1)
  | .reset => (0x1, 0x1)
  | .run => (0x0, 0x1)

/-- A well-formed operation's select word meets `(SEL & mask) == match` for the operation's own row. -/
def Instr.meetsRow (i : Instr) : Bool :=
  !i.wellFormed || (encode i).value &&& i.row.2 == i.row.1

namespace Laws

/-- The encoder keeps to the operation's row. -/
def RowMatch.Statement (i : Instr) : Prop := i.meetsRow = true

/-- The operations that carry a `CkSel` keep to their rows. -/
theorem ckSel_meets (u : CkInst) (g : CkSel) :
    ([.ckReset u g, .ckHold u g] : List Instr).all Instr.meetsRow = true := by
  obtain ⟨a, b, c⟩ := g
  cases u <;> revert a b c <;> decide

/-- The operations that carry a `FrSel` keep to their rows. -/
theorem frSel_meets (g : FrSel) :
    ([.frLoad g, .frSkip g, .frIdleWait g, .frHdrLast g, .frHdr g, .frHdrStall g, .frPayEop g, .frPay g,
      .frPayStall g, .frIllegal g] : List Instr).all Instr.meetsRow = true := by
  obtain ⟨s, a, b, c, d, e⟩ := g
  revert s a b c d e
  decide +kernel

/-- The operations that carry a `ExSel` keep to their rows. -/
theorem exSel_meets (g : ExSel) :
    ([.exIdleRunt g, .exStart g, .exSkip g, .exIdleWait g, .exHdrRunt g, .exHdrLast g, .exHdr g, .exHdrWait g,
      .exPayEop g, .exPay g, .exPayStall g, .exIllegal g] : List Instr).all Instr.meetsRow = true := by
  obtain ⟨s, a, b, c, d, e⟩ := g
  revert s a b c d e
  decide +kernel

/-- The operations that carry a `TxSel` keep to their rows. -/
theorem txSel_meets (g : TxSel) :
    ([.txStart g, .txIdleWait g, .txReqAccept g, .txReqWait g, .txUnresolved g, .txResolved g, .txAwaitWait g,
      .txSendEop g, .txSendBeat g, .txSendStall g, .txDropEop g, .txDropBeat g, .txDropWait g, .txIllegal g] : List Instr).all Instr.meetsRow = true := by
  obtain ⟨s, a, b, c, d, e, f, h, i⟩ := g
  revert s a b c d e f h i
  decide +kernel

/-- The operations that carry a `RxSel` keep to their rows. -/
theorem rxSel_meets (g : RxSel) :
    ([.rxStart g, .rxIdleWait g, .rxAccept g, .rxReject g, .rxCheckWait g, .rxPresentEop g, .rxPresentBeat g,
      .rxPresentStall g, .rxDropEop g, .rxDropBeat g, .rxDropWait g] : List Instr).all Instr.meetsRow = true := by
  obtain ⟨s, a, b, c, d, e, f⟩ := g
  revert s a b c d e f
  decide +kernel

/-- The operations that carry a `ArbSel` keep to their rows. -/
theorem arbSel_meets (g : ArbSel) :
    ([.xbArbGrant g, .xbArbIdle g, .xbMuxEop g, .xbMuxBeat g, .xbMuxStall g] : List Instr).all Instr.meetsRow = true := by
  obtain ⟨a, b, c, d, e⟩ := g
  revert a b c d e
  decide +kernel

/-- The operations that carry a `DmxSel` keep to their rows. -/
theorem dmxSel_meets (g : DmxSel) :
    ([.xbDmxDiscard g, .xbDmxIdle g] : List Instr).all Instr.meetsRow = true := by
  obtain ⟨a, b, c⟩ := g
  revert a b c
  decide +kernel

theorem RowMatch.ckReset (u : CkInst) (g : CkSel) : RowMatch.Statement (.ckReset u g) :=
  List.all_eq_true.1 (ckSel_meets u g) _ (by simp)

theorem RowMatch.ckAccum (u : CkInst) : RowMatch.Statement (.ckAccum u) := by
  cases u <;> rfl

theorem RowMatch.ckHold (u : CkInst) (g : CkSel) : RowMatch.Statement (.ckHold u g) :=
  List.all_eq_true.1 (ckSel_meets u g) _ (by simp)

theorem RowMatch.frLoad (g : FrSel) : RowMatch.Statement (.frLoad g) :=
  List.all_eq_true.1 (frSel_meets g) _ (by simp)

theorem RowMatch.frSkip (g : FrSel) : RowMatch.Statement (.frSkip g) :=
  List.all_eq_true.1 (frSel_meets g) _ (by simp)

theorem RowMatch.frIdleWait (g : FrSel) : RowMatch.Statement (.frIdleWait g) :=
  List.all_eq_true.1 (frSel_meets g) _ (by simp)

theorem RowMatch.frHdrLast (g : FrSel) : RowMatch.Statement (.frHdrLast g) :=
  List.all_eq_true.1 (frSel_meets g) _ (by simp)

theorem RowMatch.frHdr (g : FrSel) : RowMatch.Statement (.frHdr g) :=
  List.all_eq_true.1 (frSel_meets g) _ (by simp)

theorem RowMatch.frHdrStall (g : FrSel) : RowMatch.Statement (.frHdrStall g) :=
  List.all_eq_true.1 (frSel_meets g) _ (by simp)

theorem RowMatch.frPayEop (g : FrSel) : RowMatch.Statement (.frPayEop g) :=
  List.all_eq_true.1 (frSel_meets g) _ (by simp)

theorem RowMatch.frPay (g : FrSel) : RowMatch.Statement (.frPay g) :=
  List.all_eq_true.1 (frSel_meets g) _ (by simp)

theorem RowMatch.frPayStall (g : FrSel) : RowMatch.Statement (.frPayStall g) :=
  List.all_eq_true.1 (frSel_meets g) _ (by simp)

theorem RowMatch.frIllegal (g : FrSel) : RowMatch.Statement (.frIllegal g) :=
  List.all_eq_true.1 (frSel_meets g) _ (by simp)

theorem RowMatch.exIdleRunt (g : ExSel) : RowMatch.Statement (.exIdleRunt g) :=
  List.all_eq_true.1 (exSel_meets g) _ (by simp)

theorem RowMatch.exStart (g : ExSel) : RowMatch.Statement (.exStart g) :=
  List.all_eq_true.1 (exSel_meets g) _ (by simp)

theorem RowMatch.exSkip (g : ExSel) : RowMatch.Statement (.exSkip g) :=
  List.all_eq_true.1 (exSel_meets g) _ (by simp)

theorem RowMatch.exIdleWait (g : ExSel) : RowMatch.Statement (.exIdleWait g) :=
  List.all_eq_true.1 (exSel_meets g) _ (by simp)

theorem RowMatch.exHdrRunt (g : ExSel) : RowMatch.Statement (.exHdrRunt g) :=
  List.all_eq_true.1 (exSel_meets g) _ (by simp)

theorem RowMatch.exHdrLast (g : ExSel) : RowMatch.Statement (.exHdrLast g) :=
  List.all_eq_true.1 (exSel_meets g) _ (by simp)

theorem RowMatch.exHdr (g : ExSel) : RowMatch.Statement (.exHdr g) :=
  List.all_eq_true.1 (exSel_meets g) _ (by simp)

theorem RowMatch.exHdrWait (g : ExSel) : RowMatch.Statement (.exHdrWait g) :=
  List.all_eq_true.1 (exSel_meets g) _ (by simp)

theorem RowMatch.exPayEop (g : ExSel) : RowMatch.Statement (.exPayEop g) :=
  List.all_eq_true.1 (exSel_meets g) _ (by simp)

theorem RowMatch.exPay (g : ExSel) : RowMatch.Statement (.exPay g) :=
  List.all_eq_true.1 (exSel_meets g) _ (by simp)

theorem RowMatch.exPayStall (g : ExSel) : RowMatch.Statement (.exPayStall g) :=
  List.all_eq_true.1 (exSel_meets g) _ (by simp)

theorem RowMatch.exIllegal (g : ExSel) : RowMatch.Statement (.exIllegal g) :=
  List.all_eq_true.1 (exSel_meets g) _ (by simp)

theorem RowMatch.txStart (g : TxSel) : RowMatch.Statement (.txStart g) :=
  List.all_eq_true.1 (txSel_meets g) _ (by simp)

theorem RowMatch.txIdleWait (g : TxSel) : RowMatch.Statement (.txIdleWait g) :=
  List.all_eq_true.1 (txSel_meets g) _ (by simp)

theorem RowMatch.txReqAccept (g : TxSel) : RowMatch.Statement (.txReqAccept g) :=
  List.all_eq_true.1 (txSel_meets g) _ (by simp)

theorem RowMatch.txReqWait (g : TxSel) : RowMatch.Statement (.txReqWait g) :=
  List.all_eq_true.1 (txSel_meets g) _ (by simp)

theorem RowMatch.txUnresolved (g : TxSel) : RowMatch.Statement (.txUnresolved g) :=
  List.all_eq_true.1 (txSel_meets g) _ (by simp)

theorem RowMatch.txResolved (g : TxSel) : RowMatch.Statement (.txResolved g) :=
  List.all_eq_true.1 (txSel_meets g) _ (by simp)

theorem RowMatch.txAwaitWait (g : TxSel) : RowMatch.Statement (.txAwaitWait g) :=
  List.all_eq_true.1 (txSel_meets g) _ (by simp)

theorem RowMatch.txSendEop (g : TxSel) : RowMatch.Statement (.txSendEop g) :=
  List.all_eq_true.1 (txSel_meets g) _ (by simp)

theorem RowMatch.txSendBeat (g : TxSel) : RowMatch.Statement (.txSendBeat g) :=
  List.all_eq_true.1 (txSel_meets g) _ (by simp)

theorem RowMatch.txSendStall (g : TxSel) : RowMatch.Statement (.txSendStall g) :=
  List.all_eq_true.1 (txSel_meets g) _ (by simp)

theorem RowMatch.txDropEop (g : TxSel) : RowMatch.Statement (.txDropEop g) :=
  List.all_eq_true.1 (txSel_meets g) _ (by simp)

theorem RowMatch.txDropBeat (g : TxSel) : RowMatch.Statement (.txDropBeat g) :=
  List.all_eq_true.1 (txSel_meets g) _ (by simp)

theorem RowMatch.txDropWait (g : TxSel) : RowMatch.Statement (.txDropWait g) :=
  List.all_eq_true.1 (txSel_meets g) _ (by simp)

theorem RowMatch.txIllegal (g : TxSel) : RowMatch.Statement (.txIllegal g) :=
  List.all_eq_true.1 (txSel_meets g) _ (by simp)

theorem RowMatch.rxStart (g : RxSel) : RowMatch.Statement (.rxStart g) :=
  List.all_eq_true.1 (rxSel_meets g) _ (by simp)

theorem RowMatch.rxIdleWait (g : RxSel) : RowMatch.Statement (.rxIdleWait g) :=
  List.all_eq_true.1 (rxSel_meets g) _ (by simp)

theorem RowMatch.rxAccept (g : RxSel) : RowMatch.Statement (.rxAccept g) :=
  List.all_eq_true.1 (rxSel_meets g) _ (by simp)

theorem RowMatch.rxReject (g : RxSel) : RowMatch.Statement (.rxReject g) :=
  List.all_eq_true.1 (rxSel_meets g) _ (by simp)

theorem RowMatch.rxCheckWait (g : RxSel) : RowMatch.Statement (.rxCheckWait g) :=
  List.all_eq_true.1 (rxSel_meets g) _ (by simp)

theorem RowMatch.rxPresentEop (g : RxSel) : RowMatch.Statement (.rxPresentEop g) :=
  List.all_eq_true.1 (rxSel_meets g) _ (by simp)

theorem RowMatch.rxPresentBeat (g : RxSel) : RowMatch.Statement (.rxPresentBeat g) :=
  List.all_eq_true.1 (rxSel_meets g) _ (by simp)

theorem RowMatch.rxPresentStall (g : RxSel) : RowMatch.Statement (.rxPresentStall g) :=
  List.all_eq_true.1 (rxSel_meets g) _ (by simp)

theorem RowMatch.rxDropEop (g : RxSel) : RowMatch.Statement (.rxDropEop g) :=
  List.all_eq_true.1 (rxSel_meets g) _ (by simp)

theorem RowMatch.rxDropBeat (g : RxSel) : RowMatch.Statement (.rxDropBeat g) :=
  List.all_eq_true.1 (rxSel_meets g) _ (by simp)

theorem RowMatch.rxDropWait (g : RxSel) : RowMatch.Statement (.rxDropWait g) :=
  List.all_eq_true.1 (rxSel_meets g) _ (by simp)

theorem RowMatch.xbArbGrant (g : ArbSel) : RowMatch.Statement (.xbArbGrant g) :=
  List.all_eq_true.1 (arbSel_meets g) _ (by simp)

theorem RowMatch.xbArbIdle (g : ArbSel) : RowMatch.Statement (.xbArbIdle g) :=
  List.all_eq_true.1 (arbSel_meets g) _ (by simp)

theorem RowMatch.xbMuxEop (g : ArbSel) : RowMatch.Statement (.xbMuxEop g) :=
  List.all_eq_true.1 (arbSel_meets g) _ (by simp)

theorem RowMatch.xbMuxBeat (g : ArbSel) : RowMatch.Statement (.xbMuxBeat g) :=
  List.all_eq_true.1 (arbSel_meets g) _ (by simp)

theorem RowMatch.xbMuxStall (g : ArbSel) : RowMatch.Statement (.xbMuxStall g) :=
  List.all_eq_true.1 (arbSel_meets g) _ (by simp)

theorem RowMatch.xbDmxDeliver : RowMatch.Statement (.xbDmxDeliver) := rfl

theorem RowMatch.xbDmxStall : RowMatch.Statement (.xbDmxStall) := rfl

theorem RowMatch.xbDmxDiscard (g : DmxSel) : RowMatch.Statement (.xbDmxDiscard g) :=
  List.all_eq_true.1 (dmxSel_meets g) _ (by simp)

theorem RowMatch.xbDmxIdle (g : DmxSel) : RowMatch.Statement (.xbDmxIdle g) :=
  List.all_eq_true.1 (dmxSel_meets g) _ (by simp)

theorem RowMatch.xbRegisterDup : RowMatch.Statement (.xbRegisterDup) := rfl

theorem RowMatch.xbRegister : RowMatch.Statement (.xbRegister) := rfl

theorem RowMatch.reset : RowMatch.Statement (.reset) := rfl

theorem RowMatch.run : RowMatch.Statement (.run) := rfl

end Laws

end Sys2Proof
end

