-- ==== Sys2Proof/Tests/Slice0.lean ====
section
/-! SUPPORT. Small tests: the word of every row, ill-formed operations, and one or two steps per operation. The expected values are
the spec's: its rows (30_encoding.md), the examples of its rules, and the vectors of 95_test_vectors.md. Each step test also
shows that the conditions of the statement about its operation can be met. -/

namespace Sys2Proof.Tests

open Sys2Proof.Machine Sys2Proof.Safety

/-! A word of every row, written from its match with some of its open bits set (30_encoding.md R106 to R120). -/

theorem test_decode_ckReset : decode (.ck .tx 0b101#3) = .ok (.ckReset .tx ⟨true, false, true⟩) := by decide
theorem test_decode_ckAccum : decode (.ck .rx 0b010#3) = .ok (.ckAccum .rx) := by decide
theorem test_decode_ckHold : decode (.ck .tx 0b001#3) = .ok (.ckHold .tx ⟨false, false, true⟩) := by decide
theorem test_decode_frLoad :
    decode (.fr 0b0001101#7) = .ok (.frLoad ⟨0b00#2, false, true, true, false, true⟩) := by decide
theorem test_decode_frSkip :
    decode (.fr 0b0001001#7) = .ok (.frSkip ⟨0b00#2, false, true, false, false, true⟩) := by decide
theorem test_decode_frIdleWait :
    decode (.fr 0b0000011#7) = .ok (.frIdleWait ⟨0b00#2, false, false, false, true, true⟩) := by decide
theorem test_decode_frHdrLast :
    decode (.fr 0b0110011#7) = .ok (.frHdrLast ⟨0b01#2, true, false, false, true, true⟩) := by decide
theorem test_decode_frHdr :
    decode (.fr 0b0100011#7) = .ok (.frHdr ⟨0b01#2, false, false, false, true, true⟩) := by decide
theorem test_decode_frHdrStall :
    decode (.fr 0b0100110#7) = .ok (.frHdrStall ⟨0b01#2, false, false, true, true, false⟩) := by decide
theorem test_decode_frPayEop :
    decode (.fr 0b1001111#7) = .ok (.frPayEop ⟨0b10#2, false, true, true, true, true⟩) := by decide
theorem test_decode_frPay :
    decode (.fr 0b1001101#7) = .ok (.frPay ⟨0b10#2, false, true, true, false, true⟩) := by decide
theorem test_decode_frPayStall :
    decode (.fr 0b1000011#7) = .ok (.frPayStall ⟨0b10#2, false, false, false, true, true⟩) := by decide
theorem test_decode_frIllegal :
    decode (.fr 0b1100011#7) = .ok (.frIllegal ⟨0b11#2, false, false, false, true, true⟩) := by decide
theorem test_decode_exIdleRunt :
    decode (.ex 0b0001111#7) = .ok (.exIdleRunt ⟨0b00#2, false, true, true, true, true⟩) := by decide
theorem test_decode_exStart :
    decode (.ex 0b0001101#7) = .ok (.exStart ⟨0b00#2, false, true, true, false, true⟩) := by decide
theorem test_decode_exSkip :
    decode (.ex 0b0001001#7) = .ok (.exSkip ⟨0b00#2, false, true, false, false, true⟩) := by decide
theorem test_decode_exIdleWait :
    decode (.ex 0b0000011#7) = .ok (.exIdleWait ⟨0b00#2, false, false, false, true, true⟩) := by decide
theorem test_decode_exHdrRunt :
    decode (.ex 0b0101011#7) = .ok (.exHdrRunt ⟨0b01#2, false, true, false, true, true⟩) := by decide
theorem test_decode_exHdrLast :
    decode (.ex 0b0111001#7) = .ok (.exHdrLast ⟨0b01#2, true, true, false, false, true⟩) := by decide
theorem test_decode_exHdr :
    decode (.ex 0b0101001#7) = .ok (.exHdr ⟨0b01#2, false, true, false, false, true⟩) := by decide
theorem test_decode_exHdrWait :
    decode (.ex 0b0100011#7) = .ok (.exHdrWait ⟨0b01#2, false, false, false, true, true⟩) := by decide
theorem test_decode_exPayEop :
    decode (.ex 0b1001111#7) = .ok (.exPayEop ⟨0b10#2, false, true, true, true, true⟩) := by decide
theorem test_decode_exPay :
    decode (.ex 0b1001101#7) = .ok (.exPay ⟨0b10#2, false, true, true, false, true⟩) := by decide
theorem test_decode_exPayStall :
    decode (.ex 0b1000011#7) = .ok (.exPayStall ⟨0b10#2, false, false, false, true, true⟩) := by decide
theorem test_decode_exIllegal :
    decode (.ex 0b1100011#7) = .ok (.exIllegal ⟨0b11#2, false, false, false, true, true⟩) := by decide
theorem test_decode_txStart :
    decode (.tx 0b00011010011#11) = .ok (.txStart ⟨0b000#3, true, true, false, true, false, false, true, true⟩) := by decide
theorem test_decode_txIdleWait :
    decode (.tx 0b00000001111#11) = .ok (.txIdleWait ⟨0b000#3, false, false, false, false, true, true, true, true⟩) := by decide
theorem test_decode_txReqAccept :
    decode (.tx 0b00100001111#11) = .ok (.txReqAccept ⟨0b001#3, false, false, false, false, true, true, true, true⟩) := by decide
theorem test_decode_txReqWait :
    decode (.tx 0b00100010111#11) = .ok (.txReqWait ⟨0b001#3, false, false, false, true, false, true, true, true⟩) := by decide
theorem test_decode_txUnresolved :
    decode (.tx 0b01000011111#11) = .ok (.txUnresolved ⟨0b010#3, false, false, false, true, true, true, true, true⟩) := by decide
theorem test_decode_txResolved :
    decode (.tx 0b01000011101#11) = .ok (.txResolved ⟨0b010#3, false, false, false, true, true, true, false, true⟩) := by decide
theorem test_decode_txAwaitWait :
    decode (.tx 0b01000011011#11) = .ok (.txAwaitWait ⟨0b010#3, false, false, false, true, true, false, true, true⟩) := by decide
theorem test_decode_txSendEop :
    decode (.tx 0b01110100111#11) = .ok (.txSendEop ⟨0b011#3, true, false, true, false, false, true, true, true⟩) := by decide
theorem test_decode_txSendBeat :
    decode (.tx 0b01110000111#11) = .ok (.txSendBeat ⟨0b011#3, true, false, false, false, false, true, true, true⟩) := by decide
theorem test_decode_txSendStall :
    decode (.tx 0b01100001111#11) = .ok (.txSendStall ⟨0b011#3, false, false, false, false, true, true, true, true⟩) := by decide
theorem test_decode_txDropEop :
    decode (.tx 0b10010100111#11) = .ok (.txDropEop ⟨0b100#3, true, false, true, false, false, true, true, true⟩) := by decide
theorem test_decode_txDropBeat :
    decode (.tx 0b10010000111#11) = .ok (.txDropBeat ⟨0b100#3, true, false, false, false, false, true, true, true⟩) := by decide
theorem test_decode_txDropWait :
    decode (.tx 0b10000001111#11) = .ok (.txDropWait ⟨0b100#3, false, false, false, false, true, true, true, true⟩) := by decide
theorem test_decode_txIllegal :
    decode (.tx 0b10100001111#11) = .ok (.txIllegal ⟨0b101#3, false, false, false, false, true, true, true, true⟩) := by decide
theorem test_decode_rxStart :
    decode (.rx 0b00110011#8) = .ok (.rxStart ⟨0b00#2, true, true, false, false, true, true⟩) := by decide
theorem test_decode_rxIdleWait :
    decode (.rx 0b00000111#8) = .ok (.rxIdleWait ⟨0b00#2, false, false, false, true, true, true⟩) := by decide
theorem test_decode_rxAccept :
    decode (.rx 0b01001111#8) = .ok (.rxAccept ⟨0b01#2, false, false, true, true, true, true⟩) := by decide
theorem test_decode_rxReject :
    decode (.rx 0b01001101#8) = .ok (.rxReject ⟨0b01#2, false, false, true, true, false, true⟩) := by decide
theorem test_decode_rxCheckWait :
    decode (.rx 0b01001011#8) = .ok (.rxCheckWait ⟨0b01#2, false, false, true, false, true, true⟩) := by decide
theorem test_decode_rxPresentEop :
    decode (.rx 0b10101011#8) = .ok (.rxPresentEop ⟨0b10#2, true, false, true, false, true, true⟩) := by decide
theorem test_decode_rxPresentBeat :
    decode (.rx 0b10100011#8) = .ok (.rxPresentBeat ⟨0b10#2, true, false, false, false, true, true⟩) := by decide
theorem test_decode_rxPresentStall :
    decode (.rx 0b10000111#8) = .ok (.rxPresentStall ⟨0b10#2, false, false, false, true, true, true⟩) := by decide
theorem test_decode_rxDropEop :
    decode (.rx 0b11101011#8) = .ok (.rxDropEop ⟨0b11#2, true, false, true, false, true, true⟩) := by decide
theorem test_decode_rxDropBeat :
    decode (.rx 0b11100011#8) = .ok (.rxDropBeat ⟨0b11#2, true, false, false, false, true, true⟩) := by decide
theorem test_decode_rxDropWait :
    decode (.rx 0b11000111#8) = .ok (.rxDropWait ⟨0b11#2, false, false, false, true, true, true⟩) := by decide
theorem test_decode_xbArbGrant :
    decode (.arb 0b01001#5) = .ok (.xbArbGrant ⟨false, true, false, false, true⟩) := by decide
theorem test_decode_xbArbIdle :
    decode (.arb 0b00011#5) = .ok (.xbArbIdle ⟨false, false, false, true, true⟩) := by decide
theorem test_decode_xbMuxEop :
    decode (.arb 0b10111#5) = .ok (.xbMuxEop ⟨true, false, true, true, true⟩) := by decide
theorem test_decode_xbMuxBeat :
    decode (.arb 0b10110#5) = .ok (.xbMuxBeat ⟨true, false, true, true, false⟩) := by decide
theorem test_decode_xbMuxStall :
    decode (.arb 0b10011#5) = .ok (.xbMuxStall ⟨true, false, false, true, true⟩) := by decide
theorem test_decode_xbDmxDeliver : decode (.dmx 0b111#3) = .ok (.xbDmxDeliver) := by decide
theorem test_decode_xbDmxStall : decode (.dmx 0b110#3) = .ok (.xbDmxStall) := by decide
theorem test_decode_xbDmxDiscard : decode (.dmx 0b100#3) = .ok (.xbDmxDiscard ⟨true, false, false⟩) := by decide
theorem test_decode_xbDmxIdle : decode (.dmx 0b001#3) = .ok (.xbDmxIdle ⟨false, false, true⟩) := by decide
theorem test_decode_xbRegisterDup : decode (.cfg 0b1#1) = .ok (.xbRegisterDup) := by decide
theorem test_decode_xbRegister : decode (.cfg 0b0#1) = .ok (.xbRegister) := by decide
theorem test_decode_reset : decode (.top 0b1#1) = .ok (.reset) := by decide
theorem test_decode_run : decode (.top 0b0#1) = .ok (.run) := by decide

/-! Operations whose fields break one condition of their Operands line. -/

theorem test_illformed_ckReset :
    ([.ckReset .rx ⟨false, false, false⟩] : List Instr).all (fun i => !i.wellFormed) = true := by
  decide
theorem test_illformed_ckHold :
    ([.ckHold .rx ⟨true, false, false⟩,
      .ckHold .rx ⟨false, true, false⟩] : List Instr).all (fun i => !i.wellFormed) = true := by
  decide
theorem test_illformed_frLoad :
    ([.frLoad ⟨0b01#2, false, true, true, false, false⟩,
      .frLoad ⟨0b00#2, false, false, true, false, false⟩,
      .frLoad ⟨0b00#2, false, true, false, false, false⟩] : List Instr).all (fun i => !i.wellFormed) = true := by
  decide
theorem test_illformed_frSkip :
    ([.frSkip ⟨0b01#2, false, true, false, false, false⟩,
      .frSkip ⟨0b00#2, false, false, false, false, false⟩,
      .frSkip ⟨0b00#2, false, true, true, false, false⟩] : List Instr).all (fun i => !i.wellFormed) = true := by
  decide
theorem test_illformed_frIdleWait :
    ([.frIdleWait ⟨0b01#2, false, false, false, false, false⟩,
      .frIdleWait ⟨0b00#2, false, true, false, false, false⟩] : List Instr).all (fun i => !i.wellFormed) = true := by
  decide
theorem test_illformed_frHdrLast :
    ([.frHdrLast ⟨0b00#2, true, false, false, false, true⟩,
      .frHdrLast ⟨0b01#2, false, false, false, false, true⟩,
      .frHdrLast ⟨0b01#2, true, false, false, false, false⟩] : List Instr).all (fun i => !i.wellFormed) = true := by
  decide
theorem test_illformed_frHdr :
    ([.frHdr ⟨0b00#2, false, false, false, false, true⟩,
      .frHdr ⟨0b01#2, true, false, false, false, true⟩,
      .frHdr ⟨0b01#2, false, false, false, false, false⟩] : List Instr).all (fun i => !i.wellFormed) = true := by
  decide
theorem test_illformed_frHdrStall :
    ([.frHdrStall ⟨0b00#2, false, false, false, false, false⟩,
      .frHdrStall ⟨0b01#2, false, false, false, false, true⟩] : List Instr).all (fun i => !i.wellFormed) = true := by
  decide
theorem test_illformed_frPayEop :
    ([.frPayEop ⟨0b00#2, false, true, false, true, true⟩,
      .frPayEop ⟨0b10#2, false, false, false, true, true⟩,
      .frPayEop ⟨0b10#2, false, true, false, false, true⟩,
      .frPayEop ⟨0b10#2, false, true, false, true, false⟩] : List Instr).all (fun i => !i.wellFormed) = true := by
  decide
theorem test_illformed_frPay :
    ([.frPay ⟨0b00#2, false, true, false, false, true⟩,
      .frPay ⟨0b10#2, false, false, false, false, true⟩,
      .frPay ⟨0b10#2, false, true, false, true, true⟩,
      .frPay ⟨0b10#2, false, true, false, false, false⟩] : List Instr).all (fun i => !i.wellFormed) = true := by
  decide
theorem test_illformed_frPayStall :
    ([.frPayStall ⟨0b00#2, false, false, false, false, false⟩,
      .frPayStall ⟨0b10#2, false, true, false, false, true⟩] : List Instr).all (fun i => !i.wellFormed) = true := by
  decide
theorem test_illformed_frIllegal :
    ([.frIllegal ⟨0b00#2, false, false, false, false, false⟩] : List Instr).all (fun i => !i.wellFormed) = true := by
  decide
theorem test_illformed_exIdleRunt :
    ([.exIdleRunt ⟨0b01#2, false, true, true, true, false⟩,
      .exIdleRunt ⟨0b00#2, false, false, true, true, false⟩,
      .exIdleRunt ⟨0b00#2, false, true, false, true, false⟩,
      .exIdleRunt ⟨0b00#2, false, true, true, false, false⟩] : List Instr).all (fun i => !i.wellFormed) = true := by
  decide
theorem test_illformed_exStart :
    ([.exStart ⟨0b01#2, false, true, true, false, false⟩,
      .exStart ⟨0b00#2, false, false, true, false, false⟩,
      .exStart ⟨0b00#2, false, true, false, false, false⟩,
      .exStart ⟨0b00#2, false, true, true, true, false⟩] : List Instr).all (fun i => !i.wellFormed) = true := by
  decide
theorem test_illformed_exSkip :
    ([.exSkip ⟨0b01#2, false, true, false, false, false⟩,
      .exSkip ⟨0b00#2, false, false, false, false, false⟩,
      .exSkip ⟨0b00#2, false, true, true, false, false⟩] : List Instr).all (fun i => !i.wellFormed) = true := by
  decide
theorem test_illformed_exIdleWait :
    ([.exIdleWait ⟨0b01#2, false, false, false, false, false⟩,
      .exIdleWait ⟨0b00#2, false, true, false, false, false⟩] : List Instr).all (fun i => !i.wellFormed) = true := by
  decide
theorem test_illformed_exHdrRunt :
    ([.exHdrRunt ⟨0b00#2, false, true, false, true, false⟩,
      .exHdrRunt ⟨0b01#2, false, false, false, true, false⟩,
      .exHdrRunt ⟨0b01#2, false, true, false, false, false⟩] : List Instr).all (fun i => !i.wellFormed) = true := by
  decide
theorem test_illformed_exHdrLast :
    ([.exHdrLast ⟨0b00#2, true, true, false, false, false⟩,
      .exHdrLast ⟨0b01#2, false, true, false, false, false⟩,
      .exHdrLast ⟨0b01#2, true, false, false, false, false⟩,
      .exHdrLast ⟨0b01#2, true, true, false, true, false⟩] : List Instr).all (fun i => !i.wellFormed) = true := by
  decide
theorem test_illformed_exHdr :
    ([.exHdr ⟨0b00#2, false, true, false, false, false⟩,
      .exHdr ⟨0b01#2, true, true, false, false, false⟩,
      .exHdr ⟨0b01#2, false, false, false, false, false⟩,
      .exHdr ⟨0b01#2, false, true, false, true, false⟩] : List Instr).all (fun i => !i.wellFormed) = true := by
  decide
theorem test_illformed_exHdrWait :
    ([.exHdrWait ⟨0b00#2, false, false, false, false, false⟩,
      .exHdrWait ⟨0b01#2, false, true, false, false, false⟩] : List Instr).all (fun i => !i.wellFormed) = true := by
  decide
theorem test_illformed_exPayEop :
    ([.exPayEop ⟨0b00#2, false, true, false, true, true⟩,
      .exPayEop ⟨0b10#2, false, false, false, true, true⟩,
      .exPayEop ⟨0b10#2, false, true, false, false, true⟩,
      .exPayEop ⟨0b10#2, false, true, false, true, false⟩] : List Instr).all (fun i => !i.wellFormed) = true := by
  decide
theorem test_illformed_exPay :
    ([.exPay ⟨0b00#2, false, true, false, false, true⟩,
      .exPay ⟨0b10#2, false, false, false, false, true⟩,
      .exPay ⟨0b10#2, false, true, false, true, true⟩,
      .exPay ⟨0b10#2, false, true, false, false, false⟩] : List Instr).all (fun i => !i.wellFormed) = true := by
  decide
theorem test_illformed_exPayStall :
    ([.exPayStall ⟨0b00#2, false, false, false, false, false⟩,
      .exPayStall ⟨0b10#2, false, true, false, false, true⟩] : List Instr).all (fun i => !i.wellFormed) = true := by
  decide
theorem test_illformed_exIllegal :
    ([.exIllegal ⟨0b00#2, false, false, false, false, false⟩] : List Instr).all (fun i => !i.wellFormed) = true := by
  decide
theorem test_illformed_txStart :
    ([.txStart ⟨0b001#3, true, true, false, true, false, false, false, false⟩,
      .txStart ⟨0b000#3, false, true, false, true, false, false, false, false⟩,
      .txStart ⟨0b000#3, true, false, false, true, false, false, false, false⟩,
      .txStart ⟨0b000#3, true, true, false, false, false, false, false, false⟩] : List Instr).all (fun i => !i.wellFormed) = true := by
  decide
theorem test_illformed_txIdleWait :
    ([.txIdleWait ⟨0b001#3, false, false, false, false, false, false, false, false⟩,
      .txIdleWait ⟨0b000#3, true, true, false, true, false, false, false, false⟩] : List Instr).all (fun i => !i.wellFormed) = true := by
  decide
theorem test_illformed_txReqAccept :
    ([.txReqAccept ⟨0b000#3, false, false, false, false, true, false, false, false⟩,
      .txReqAccept ⟨0b001#3, false, false, false, false, false, false, false, false⟩] : List Instr).all (fun i => !i.wellFormed) = true := by
  decide
theorem test_illformed_txReqWait :
    ([.txReqWait ⟨0b000#3, false, false, false, false, false, false, false, false⟩,
      .txReqWait ⟨0b001#3, false, false, false, false, true, false, false, false⟩] : List Instr).all (fun i => !i.wellFormed) = true := by
  decide
theorem test_illformed_txUnresolved :
    ([.txUnresolved ⟨0b000#3, false, false, false, false, false, true, true, false⟩,
      .txUnresolved ⟨0b010#3, false, false, false, false, false, false, true, false⟩,
      .txUnresolved ⟨0b010#3, false, false, false, false, false, true, false, false⟩] : List Instr).all (fun i => !i.wellFormed) = true := by
  decide
theorem test_illformed_txResolved :
    ([.txResolved ⟨0b000#3, false, false, false, false, false, true, false, false⟩,
      .txResolved ⟨0b010#3, false, false, false, false, false, false, false, false⟩,
      .txResolved ⟨0b010#3, false, false, false, false, false, true, true, false⟩] : List Instr).all (fun i => !i.wellFormed) = true := by
  decide
theorem test_illformed_txAwaitWait :
    ([.txAwaitWait ⟨0b000#3, false, false, false, false, false, false, false, false⟩,
      .txAwaitWait ⟨0b010#3, false, false, false, false, false, true, false, false⟩] : List Instr).all (fun i => !i.wellFormed) = true := by
  decide
theorem test_illformed_txSendEop :
    ([.txSendEop ⟨0b000#3, true, false, true, false, false, false, false, true⟩,
      .txSendEop ⟨0b011#3, false, false, true, false, false, false, false, true⟩,
      .txSendEop ⟨0b011#3, true, false, false, false, false, false, false, true⟩,
      .txSendEop ⟨0b011#3, true, false, true, false, false, false, false, false⟩] : List Instr).all (fun i => !i.wellFormed) = true := by
  decide
theorem test_illformed_txSendBeat :
    ([.txSendBeat ⟨0b000#3, true, false, false, false, false, false, false, true⟩,
      .txSendBeat ⟨0b011#3, false, false, false, false, false, false, false, true⟩,
      .txSendBeat ⟨0b011#3, true, false, true, false, false, false, false, true⟩,
      .txSendBeat ⟨0b011#3, true, false, false, false, false, false, false, false⟩] : List Instr).all (fun i => !i.wellFormed) = true := by
  decide
theorem test_illformed_txSendStall :
    ([.txSendStall ⟨0b000#3, false, false, false, false, false, false, false, false⟩,
      .txSendStall ⟨0b011#3, true, false, false, false, false, false, false, true⟩] : List Instr).all (fun i => !i.wellFormed) = true := by
  decide
theorem test_illformed_txDropEop :
    ([.txDropEop ⟨0b000#3, true, false, true, false, false, false, false, false⟩,
      .txDropEop ⟨0b100#3, false, false, true, false, false, false, false, false⟩,
      .txDropEop ⟨0b100#3, true, false, false, false, false, false, false, false⟩] : List Instr).all (fun i => !i.wellFormed) = true := by
  decide
theorem test_illformed_txDropBeat :
    ([.txDropBeat ⟨0b000#3, true, false, false, false, false, false, false, false⟩,
      .txDropBeat ⟨0b100#3, false, false, false, false, false, false, false, false⟩,
      .txDropBeat ⟨0b100#3, true, false, true, false, false, false, false, false⟩] : List Instr).all (fun i => !i.wellFormed) = true := by
  decide
theorem test_illformed_txDropWait :
    ([.txDropWait ⟨0b000#3, false, false, false, false, false, false, false, false⟩,
      .txDropWait ⟨0b100#3, true, false, false, false, false, false, false, false⟩] : List Instr).all (fun i => !i.wellFormed) = true := by
  decide
theorem test_illformed_txIllegal :
    ([.txIllegal ⟨0b000#3, false, false, false, false, false, false, false, false⟩] : List Instr).all (fun i => !i.wellFormed) = true := by
  decide
theorem test_illformed_rxStart :
    ([.rxStart ⟨0b01#2, true, true, false, false, false, false⟩,
      .rxStart ⟨0b00#2, false, true, false, false, false, false⟩,
      .rxStart ⟨0b00#2, true, false, false, false, false, false⟩] : List Instr).all (fun i => !i.wellFormed) = true := by
  decide
theorem test_illformed_rxIdleWait :
    ([.rxIdleWait ⟨0b01#2, false, false, false, false, false, false⟩,
      .rxIdleWait ⟨0b00#2, true, true, false, false, false, false⟩] : List Instr).all (fun i => !i.wellFormed) = true := by
  decide
theorem test_illformed_rxAccept :
    ([.rxAccept ⟨0b00#2, false, false, false, true, true, false⟩,
      .rxAccept ⟨0b01#2, false, false, false, false, true, false⟩,
      .rxAccept ⟨0b01#2, false, false, false, true, false, false⟩] : List Instr).all (fun i => !i.wellFormed) = true := by
  decide
theorem test_illformed_rxReject :
    ([.rxReject ⟨0b00#2, false, false, false, true, false, false⟩,
      .rxReject ⟨0b01#2, false, false, false, false, false, false⟩,
      .rxReject ⟨0b01#2, false, false, false, true, true, false⟩] : List Instr).all (fun i => !i.wellFormed) = true := by
  decide
theorem test_illformed_rxCheckWait :
    ([.rxCheckWait ⟨0b00#2, false, false, false, false, false, false⟩,
      .rxCheckWait ⟨0b01#2, false, false, false, true, false, false⟩] : List Instr).all (fun i => !i.wellFormed) = true := by
  decide
theorem test_illformed_rxPresentEop :
    ([.rxPresentEop ⟨0b00#2, true, false, true, false, false, true⟩,
      .rxPresentEop ⟨0b10#2, false, false, true, false, false, true⟩,
      .rxPresentEop ⟨0b10#2, true, false, false, false, false, true⟩,
      .rxPresentEop ⟨0b10#2, true, false, true, false, false, false⟩] : List Instr).all (fun i => !i.wellFormed) = true := by
  decide
theorem test_illformed_rxPresentBeat :
    ([.rxPresentBeat ⟨0b00#2, true, false, false, false, false, true⟩,
      .rxPresentBeat ⟨0b10#2, false, false, false, false, false, true⟩,
      .rxPresentBeat ⟨0b10#2, true, false, true, false, false, true⟩,
      .rxPresentBeat ⟨0b10#2, true, false, false, false, false, false⟩] : List Instr).all (fun i => !i.wellFormed) = true := by
  decide
theorem test_illformed_rxPresentStall :
    ([.rxPresentStall ⟨0b00#2, false, false, false, false, false, false⟩,
      .rxPresentStall ⟨0b10#2, true, false, false, false, false, true⟩] : List Instr).all (fun i => !i.wellFormed) = true := by
  decide
theorem test_illformed_rxDropEop :
    ([.rxDropEop ⟨0b00#2, true, false, true, false, false, false⟩,
      .rxDropEop ⟨0b11#2, false, false, true, false, false, false⟩,
      .rxDropEop ⟨0b11#2, true, false, false, false, false, false⟩] : List Instr).all (fun i => !i.wellFormed) = true := by
  decide
theorem test_illformed_rxDropBeat :
    ([.rxDropBeat ⟨0b00#2, true, false, false, false, false, false⟩,
      .rxDropBeat ⟨0b11#2, false, false, false, false, false, false⟩,
      .rxDropBeat ⟨0b11#2, true, false, true, false, false, false⟩] : List Instr).all (fun i => !i.wellFormed) = true := by
  decide
theorem test_illformed_rxDropWait :
    ([.rxDropWait ⟨0b00#2, false, false, false, false, false, false⟩,
      .rxDropWait ⟨0b11#2, true, false, false, false, false, false⟩] : List Instr).all (fun i => !i.wellFormed) = true := by
  decide
theorem test_illformed_xbArbGrant :
    ([.xbArbGrant ⟨true, true, false, false, false⟩,
      .xbArbGrant ⟨false, false, false, false, false⟩] : List Instr).all (fun i => !i.wellFormed) = true := by
  decide
theorem test_illformed_xbArbIdle :
    ([.xbArbIdle ⟨true, false, false, false, false⟩,
      .xbArbIdle ⟨false, true, false, false, false⟩] : List Instr).all (fun i => !i.wellFormed) = true := by
  decide
theorem test_illformed_xbMuxEop :
    ([.xbMuxEop ⟨false, false, true, true, true⟩,
      .xbMuxEop ⟨true, false, false, true, true⟩,
      .xbMuxEop ⟨true, false, true, false, true⟩,
      .xbMuxEop ⟨true, false, true, true, false⟩] : List Instr).all (fun i => !i.wellFormed) = true := by
  decide
theorem test_illformed_xbMuxBeat :
    ([.xbMuxBeat ⟨false, false, true, true, false⟩,
      .xbMuxBeat ⟨true, false, false, true, false⟩,
      .xbMuxBeat ⟨true, false, true, false, false⟩,
      .xbMuxBeat ⟨true, false, true, true, true⟩] : List Instr).all (fun i => !i.wellFormed) = true := by
  decide
theorem test_illformed_xbMuxStall :
    ([.xbMuxStall ⟨false, false, false, false, false⟩,
      .xbMuxStall ⟨true, false, true, true, false⟩] : List Instr).all (fun i => !i.wellFormed) = true := by
  decide
theorem test_illformed_xbDmxDiscard :
    ([.xbDmxDiscard ⟨false, false, false⟩,
      .xbDmxDiscard ⟨true, true, false⟩] : List Instr).all (fun i => !i.wellFormed) = true := by
  decide
theorem test_illformed_xbDmxIdle :
    ([.xbDmxIdle ⟨true, false, false⟩] : List Instr).all (fun i => !i.wellFormed) = true := by
  decide

/-! States for the step tests. -/

/-- The state an operation leads to. -/
def after (o : Host.Outcome State Fault Refusal) : State :=
  match o with
  | .next t => t
  | _ => { State.reset with cycle := 0 }

/-- `HDR8` of 95_test_vectors.md: the header of the example of 42_framer.md R163. -/
def hdr8 : Header :=
  #v[0x45, 0x00, 0x00, 0x1C, 0x00, 0x00, 0x00, 0x00, 0x80, 0x11, 0x00, 0x00, 0x0A, 0x00, 0x00, 0x01, 0x0A, 0x00, 0x00, 0x02]

/-- `HDR8c` of 95_test_vectors.md: the same with its checksum inserted. -/
def hdr8c : Header :=
  #v[0x45, 0x00, 0x00, 0x1C, 0x00, 0x00, 0x00, 0x00, 0x80, 0x11, 0x26, 0xCF, 0x0A, 0x00, 0x00, 0x01, 0x0A, 0x00, 0x00, 0x02]

/-- The configuration of program P3 of 95_test_vectors.md: ports for protocols 1 and 17, `LOCAL_IP = 10.0.0.2`. -/
def cfgP3 : Config := { Config.programP1 with proto := [1, 17], localIp := 0x0A000002 }

/-- The transmit path with user port 0 granted, its header `HDR8` checksummed, in the given states, and port 0's beat. -/
def txPath (fr : BitVec 2) (idx : BitVec 5) (tx : BitVec 3) (b : SubBeat) (l2 : Bool) : State :=
  { State.reset with
    arb := ⟨⟨1, 0⟩, true⟩, fr := ⟨fr, idx, hdr8⟩, ckTx := ⟨0xD930, 9⟩, tx := ⟨tx, 0x0A000002, 0x020000000002⟩
    inputs := [{ utx := [b], l2txReady := l2 }] }

/-- The transmit path waiting for the resolver. -/
def resolving (tx : BitVec 3) (arqReady : Bool) (ars : ArsMsg) : State :=
  { txPath F_HEADER 0 tx {} false with inputs := [{ arqReady := arqReady, ars := ars }] }

/-- The receive path with the header `HDR8c` checked, in the given states, and the transport's beat. -/
def rxPath (ex : BitVec 2) (cnt : BitVec 5) (first : Bool) (rx : BitVec 2) (b : RawBeat) (ready : Bool) : State :=
  { State.reset with
    cfg := cfgP3, ex := ⟨ex, cnt, first, hdr8c⟩, rx := ⟨rx⟩, ckRx := ⟨0xFFFF, 10⟩
    inputs := [{ l2rx := b, urxReady := [false, ready] }] }

def subBeat (sop eop : Bool) : SubBeat :=
  { valid := true, data := 0xDE, sop := sop, eop := eop, dstIp := 0x0A000002, protocol := 17, length := 8 }

def rawBeat (sop eop : Bool) : RawBeat := { valid := true, data := 0xDE, sop := sop, eop := eop }

/-! Checksum engines (95_test_vectors.md CK-1 to CK-21). -/

theorem test_cksum_hdr8 : cksum hdr8 .tx = 0x26CF := by decide
theorem test_cksum_hdr8c_verifies : cksum hdr8c .rx = 0x0000 := by decide
theorem test_cksum_bad_byte : cksum (hdr8c.set 11 0xCE) .rx = 0x0001 := by decide
theorem test_cksum_zeros : cksum Header.zero .rx = 0xFFFF := by decide
theorem test_batches_at_the_ends :
    batch { Config.programP1 with wpc := 10 } .tx 0 = wordList .tx ∧ batch Config.programP1 .rx 9 = [9] := by decide
/-- R142 on `HDR8`; R143 on the last bit of byte 11 of `HDR8c`. -/
theorem test_insertion_and_single_bit :
    put16 hdr8 10 (cksum hdr8 .tx) = hdr8c ∧ cksum (hdr8c.set 11 (hdr8c[11] ^^^ (1#8 <<< 0))) .rx ≠ 0 := by decide

/-- CK-18; R136. -/
theorem test_ckReset_clears :
    let s := { txPath F_IDLE 0 T_IDLE {} false with rx := ⟨R_IDLE⟩, ckRx := ⟨0xFFFF, 10⟩ }
    s.fr.state = F_IDLE ∧ (after (exec (.ckReset .tx default) s)).ckTx = ⟨0, 0⟩ ∧
    s.rx.state = R_IDLE ∧ (after (exec (.ckReset .rx default) s)).ckRx = ⟨0, 0⟩ := by decide
/-- CK-14, its first and its last accumulate cycle; CK-17, its last. -/
theorem test_ckAccum_first_and_last :
    let s := { txPath F_HEADER 0 T_IDLE {} false with ckTx := ⟨0, 0⟩ }
    let t := { txPath F_HEADER 0 T_IDLE {} false with ckTx := ⟨0xD92E, 8⟩ }
    let r := { rxPath E_PAYLOAD 19 true R_CHECK {} false with ckRx := ⟨0xFFFD, 9⟩ }
    s.fr.state ≠ F_IDLE ∧ t.fr.state ≠ F_IDLE ∧
    s.ckTx.cnt.toNat < numBatches s.cfg .tx ∧ (after (exec (.ckAccum .tx) s)).ckTx = ⟨0x4500, 1⟩ ∧
    t.ckTx.cnt.toNat < numBatches t.cfg .tx ∧ (after (exec (.ckAccum .tx) t)).ckTx = ⟨0xD930, 9⟩ ∧
    r.rx.state = R_CHECK ∧ r.ckRx.cnt.toNat < numBatches r.cfg .rx ∧
    (after (exec (.ckAccum .rx) r)).ckRx = ⟨0xFFFF, 10⟩ := by decide
/-- CK-19, CK-20. -/
theorem test_ckHold_keeps :
    let s := txPath F_HEADER 0 T_IDLE {} false
    let r := rxPath E_PAYLOAD 19 true R_DROP {} false
    s.fr.state ≠ F_IDLE ∧ r.rx.state = R_DROP ∧
    s.ckTx.cnt.toNat = numBatches s.cfg .tx ∧ (after (exec (.ckHold .tx default) s)).ckTx = ⟨0xD930, 9⟩ ∧
    r.rx.state ≠ R_IDLE ∧ r.rx.state ≠ R_CHECK ∧ (after (exec (.ckHold .rx default) r)).ckRx = ⟨0xFFFF, 10⟩ := by decide
theorem test_ckHold_in_check :
    let r := rxPath E_PAYLOAD 19 true R_CHECK {} false
    r.rx.state = R_CHECK ∧
    r.rx.state ≠ R_IDLE ∧ r.ckRx.cnt.toNat = numBatches r.cfg .rx ∧
    (after (exec (.ckHold .rx default) r)).out.ckRx = ⟨0x0000, true⟩ := by decide
/-- A counter one past its range, and the highest one (30_encoding.md R121). -/
theorem test_ckAccum_out_of_range :
    let s := { txPath F_HEADER 0 T_IDLE {} false with ckTx := ⟨0xD930, 10⟩ }
    let r := { rxPath E_PAYLOAD 19 true R_CHECK {} false with ckRx := ⟨0xFFFF, 15⟩ }
    s.fr.state ≠ F_IDLE ∧ r.rx.state = R_CHECK ∧
    numBatches s.cfg .tx < s.ckTx.cnt.toNat ∧ (after (exec (.ckAccum .tx) s)).events = [⟨.illegalState, .CK_TX, 1⟩] ∧
    numBatches r.cfg .rx < r.ckRx.cnt.toNat ∧ (after (exec (.ckAccum .rx) r)).events = [⟨.illegalState, .CK_RX, 1⟩] := by
  decide

/-! Framer (95_test_vectors.md FR-1 to FR-15). -/

/-- FR-1. -/
theorem test_frLoad_header :
    let s := txPath F_IDLE 7 T_IDLE (subBeat true false) false
    s.fr.state = F_IDLE ∧ (mo s).valid = true ∧ (mo s).sop = true ∧
    (after (exec (.frLoad default) s)).fr = ⟨F_HEADER, 0, hdr8⟩ ∧
    (after (exec (.frLoad default) s)).out.fr.moReady = false := by decide
/-- FR-15. -/
theorem test_assemble_length_wraps : totalLength (assemble Config.programP1 0 0 0xFFFF) = 0x0013 := by decide
/-- FR-3. -/
theorem test_frSkip_stray :
    let s := txPath F_IDLE 0 T_IDLE (subBeat false false) false
    s.fr.state = F_IDLE ∧ (mo s).valid = true ∧ (mo s).sop = false ∧
    (after (exec (.frSkip default) s)).events = [⟨.strayBeat, .FR, 1⟩] ∧
    (after (exec (.frSkip default) s)).out.fr.moReady = true := by decide
/-- FR-4. -/
theorem test_frIdleWait_keeps :
    let s := txPath F_IDLE 0 T_IDLE {} false
    s.fr.state = F_IDLE ∧
    (mo s).valid = false ∧ (after (exec (.frIdleWait default) s)).fr = s.fr := by decide
/-- FR-5, FR-6. -/
theorem test_frHdr_checksum_bytes :
    let s := txPath F_HEADER 10 T_SEND {} true
    let t := txPath F_HEADER 11 T_SEND {} true
    s.fr.state = F_HEADER ∧ t.fr.state = F_HEADER ∧
    frsReady s = true ∧ (after (exec (.frHdr default) s)).out.fr.frs = ⟨true, 0x26, false, false⟩ ∧
    (after (exec (.frHdr default) s)).fr.idx = 11 ∧
    (after (exec (.frHdr default) t)).out.fr.frs.data = 0xCF := by decide
/-- The first header byte, and the last one before byte 19. -/
theorem test_frHdr_ends :
    let s := txPath F_HEADER 0 T_SEND {} true
    let t := txPath F_HEADER 18 T_SEND {} true
    s.fr.state = F_HEADER ∧ t.fr.state = F_HEADER ∧
    (after (exec (.frHdr default) s)).out.fr.frs = ⟨true, 0x45, true, false⟩ ∧
    t.fr.idx.toNat < 19 ∧ frsReady t = true ∧ (after (exec (.frHdr default) t)).fr = ⟨F_HEADER, 19, hdr8⟩ := by decide
/-- FR-7. -/
theorem test_frHdrLast_enters_payload :
    let s := txPath F_HEADER 19 T_SEND {} true
    s.fr.state = F_HEADER ∧
    s.fr.idx = 19 ∧ frsReady s = true ∧ (after (exec (.frHdrLast default) s)).fr = ⟨F_PAYLOAD, 19, hdr8⟩ ∧
    (after (exec (.frHdrLast default) s)).out.fr.frs = ⟨true, 0x02, false, false⟩ := by decide
/-- FR-8, at the first and at the last byte. -/
theorem test_frHdrStall_keeps :
    let s := txPath F_HEADER 0 T_AWAIT {} true
    let t := txPath F_HEADER 19 T_SEND {} false
    s.fr.state = F_HEADER ∧ t.fr.state = F_HEADER ∧
    frsReady s = false ∧ (after (exec (.frHdrStall default) s)).fr = s.fr ∧
    frsReady t = false ∧ t.fr.idx.toNat < 20 ∧ (after (exec (.frHdrStall default) t)).out.fr.frs.data = 0x02 := by decide
/-- A byte index that is no header offset (30_encoding.md R121): the first one and the last one. -/
theorem test_frHdr_out_of_range :
    let s := txPath F_HEADER 20 T_SEND {} true
    let t := txPath F_HEADER 31 T_IDLE {} true
    s.fr.state = F_HEADER ∧ t.fr.state = F_HEADER ∧
    20 ≤ s.fr.idx.toNat ∧ (after (exec (.frHdr default) s)).events = [⟨.illegalState, .FR, 1⟩] ∧
    20 ≤ t.fr.idx.toNat ∧ (after (exec (.frHdrStall default) t)).events = [⟨.illegalState, .FR, 1⟩] := by decide
/-- FR-9. -/
theorem test_frPay_passes :
    let s := txPath F_PAYLOAD 19 T_SEND (subBeat true false) true
    s.fr.state = F_PAYLOAD ∧ (mo s).valid = true ∧ (mo s).eop = false ∧ frsReady s = true ∧
    (after (exec (.frPay default) s)).out.fr = ⟨true, ⟨true, 0xDE, false, false⟩⟩ := by decide
/-- FR-10. -/
theorem test_frPayEop_returns :
    let s := txPath F_PAYLOAD 19 T_SEND (subBeat false true) true
    s.fr.state = F_PAYLOAD ∧ (mo s).valid = true ∧ (mo s).eop = true ∧ frsReady s = true ∧
    (after (exec (.frPayEop default) s)).fr = ⟨F_IDLE, 19, hdr8⟩ := by decide
/-- FR-11, FR-12. -/
theorem test_frPayStall_keeps :
    let s := txPath F_PAYLOAD 19 T_SEND (subBeat false true) false
    let t := txPath F_PAYLOAD 19 T_SEND {} true
    s.fr.state = F_PAYLOAD ∧ t.fr.state = F_PAYLOAD ∧
    frsReady s = false ∧ (after (exec (.frPayStall default) s)).fr = s.fr ∧
    (mo t).valid = false ∧ (after (exec (.frPayStall default) t)).fr = t.fr := by decide
/-- FR-13. -/
theorem test_frIllegal_holds :
    let s := txPath 0b11#2 3 T_IDLE (subBeat true false) false
    s.fr.state = 0b11#2 ∧ (after (exec (.frIllegal default) s)).fr = s.fr ∧
    (after (exec (.frIllegal default) s)).events = [⟨.illegalState, .FR, 1⟩] := by decide

/-! Extractor (95_test_vectors.md EX-1 to EX-16). -/

/-- EX-1. -/
theorem test_exStart_first_byte :
    let s := rxPath E_IDLE 0 false R_IDLE { rawBeat true false with data := 0x77 } false
    s.ex.state = E_IDLE ∧ s.curIn.l2rx.valid = true ∧ s.curIn.l2rx.sop = true ∧ s.curIn.l2rx.eop = false ∧
    (after (exec (.exStart default) s)).ex = ⟨E_HEADER, 1, false, hdr8c.set 0 0x77⟩ := by decide
/-- EX-2. -/
theorem test_exIdleRunt_drops :
    let s := rxPath E_IDLE 0 false R_IDLE (rawBeat true true) false
    s.ex.state = E_IDLE ∧
    s.curIn.l2rx.valid = true ∧ s.curIn.l2rx.sop = true ∧ s.curIn.l2rx.eop = true ∧
    (after (exec (.exIdleRunt default) s)).ex = s.ex ∧
    (after (exec (.exIdleRunt default) s)).events = [⟨.runtFrame, .EX, 1⟩] := by decide
/-- EX-3. -/
theorem test_exSkip_drops :
    let s := rxPath E_IDLE 0 false R_IDLE (rawBeat false true) false
    s.ex.state = E_IDLE ∧
    s.curIn.l2rx.valid = true ∧ s.curIn.l2rx.sop = false ∧ (after (exec (.exSkip default) s)).ex = s.ex ∧
    (after (exec (.exSkip default) s)).events = [⟨.strayBeat, .EX, 1⟩] := by decide
/-- EX-4. -/
theorem test_exIdleWait_keeps :
    let s := rxPath E_IDLE 0 false R_IDLE {} false
    s.ex.state = E_IDLE ∧
    s.curIn.l2rx.valid = false ∧ (after (exec (.exIdleWait default) s)).out.ex.l2rxReady = true := by decide
/-- EX-5, and byte 1. -/
theorem test_exHdr_stores :
    let s := rxPath E_HEADER 9 false R_IDLE { rawBeat true false with data := 0x12 } false
    let t := rxPath E_HEADER 1 false R_IDLE { rawBeat false false with data := 0x12 } false
    s.ex.state = E_HEADER ∧ t.ex.state = E_HEADER ∧
    s.curIn.l2rx.valid = true ∧ s.curIn.l2rx.eop = false ∧
    (after (exec (.exHdr default) s)).ex = ⟨E_HEADER, 10, false, hdr8c.set 9 0x12⟩ ∧
    1 ≤ t.ex.cnt.toNat ∧ (after (exec (.exHdr default) t)).ex = ⟨E_HEADER, 2, false, hdr8c.set 1 0x12⟩ := by decide
/-- Byte 18; and a byte counter outside 1 to 19 (30_encoding.md R121), at each end. -/
theorem test_exHdr_ends :
    let s := rxPath E_HEADER 18 false R_IDLE (rawBeat false false) false
    let t := rxPath E_HEADER 0 false R_IDLE (rawBeat false false) false
    let u := rxPath E_HEADER 20 false R_IDLE (rawBeat false false) false
    s.ex.state = E_HEADER ∧ t.ex.state = E_HEADER ∧ u.ex.state = E_HEADER ∧
    s.ex.cnt.toNat < 19 ∧ (after (exec (.exHdr default) s)).ex.cnt = 19 ∧
    t.ex.cnt.toNat = 0 ∧ (after (exec (.exHdr default) t)).events = [⟨.illegalState, .EX, 1⟩] ∧
    20 ≤ u.ex.cnt.toNat ∧ (after (exec (.exHdr default) u)).ex = u.ex := by decide
/-- EX-7. -/
theorem test_exHdrLast_exposes :
    let s := rxPath E_HEADER 19 false R_IDLE { rawBeat false false with data := 0x03 } false
    s.ex.state = E_HEADER ∧
    s.ex.cnt = 19 ∧ s.curIn.l2rx.valid = true ∧ s.curIn.l2rx.eop = false ∧
    (after (exec (.exHdrLast default) s)).ex = ⟨E_PAYLOAD, 19, true, hdr8c.set 19 0x03⟩ := by decide
/-- EX-8, EX-9: a 12-byte frame and a 20-byte one. -/
theorem test_exHdrRunt_drops :
    let s := rxPath E_HEADER 11 false R_IDLE (rawBeat false true) false
    let t := rxPath E_HEADER 19 false R_IDLE (rawBeat false true) false
    s.ex.state = E_HEADER ∧ t.ex.state = E_HEADER ∧
    s.curIn.l2rx.valid = true ∧ s.curIn.l2rx.eop = true ∧
    (after (exec (.exHdrRunt default) s)).ex = ⟨E_IDLE, 11, false, hdr8c.set 11 0xDE⟩ ∧
    (after (exec (.exHdrRunt default) s)).events = [⟨.runtFrame, .EX, 1⟩] ∧
    t.ex.cnt.toNat < 20 ∧ (after (exec (.exHdrRunt default) t)).ex.state = E_IDLE := by decide
/-- The byte counter at 1, and outside its range. -/
theorem test_exHdrRunt_ends :
    let s := rxPath E_HEADER 1 false R_IDLE (rawBeat false true) false
    let t := rxPath E_HEADER 31 false R_IDLE (rawBeat false true) false
    s.ex.state = E_HEADER ∧ t.ex.state = E_HEADER ∧
    1 ≤ s.ex.cnt.toNat ∧ (after (exec (.exHdrRunt default) s)).ex.g[1] = 0xDE ∧
    20 ≤ t.ex.cnt.toNat ∧ (after (exec (.exHdrRunt default) t)).events = [⟨.illegalState, .EX, 1⟩] := by decide
/-- EX-10, at both ends of the counter's range. -/
theorem test_exHdrWait_keeps :
    let s := rxPath E_HEADER 1 false R_IDLE {} false
    let t := rxPath E_HEADER 19 false R_IDLE {} false
    s.ex.state = E_HEADER ∧ t.ex.state = E_HEADER ∧
    s.curIn.l2rx.valid = false ∧ 1 ≤ s.ex.cnt.toNat ∧ (after (exec (.exHdrWait default) s)).ex = s.ex ∧
    t.curIn.l2rx.valid = false ∧ t.ex.cnt.toNat ≤ 19 ∧ (after (exec (.exHdrWait default) t)).ex = t.ex := by decide
theorem test_exHdrWait_out_of_range :
    let s := rxPath E_HEADER 0 false R_IDLE {} false
    s.ex.state = E_HEADER ∧
    (after (exec (.exHdrWait default) s)).events = [⟨.illegalState, .EX, 1⟩] := by decide
/-- EX-11. -/
theorem test_exPay_passes :
    let s := rxPath E_PAYLOAD 19 true R_PRESENT (rawBeat false false) true
    s.ex.state = E_PAYLOAD ∧
    s.curIn.l2rx.valid = true ∧ s.curIn.l2rx.eop = false ∧ exsReady s = true ∧
    (after (exec (.exPay default) s)).out.ex = ⟨true, ⟨true, 0xDE, true, false, false⟩⟩ ∧
    (after (exec (.exPay default) s)).ex.first = false := by decide
/-- EX-12. -/
theorem test_exPayEop_returns :
    let s := rxPath E_PAYLOAD 19 true R_DROP (rawBeat false true) false
    s.ex.state = E_PAYLOAD ∧
    s.curIn.l2rx.valid = true ∧ s.curIn.l2rx.eop = true ∧ exsReady s = true ∧
    (after (exec (.exPayEop default) s)).ex = ⟨E_IDLE, 19, false, hdr8c⟩ := by decide
/-- EX-13, and no beat. -/
theorem test_exPayStall_keeps :
    let s := rxPath E_PAYLOAD 19 true R_CHECK (rawBeat true false) true
    let t := rxPath E_PAYLOAD 19 true R_DROP {} true
    s.ex.state = E_PAYLOAD ∧ t.ex.state = E_PAYLOAD ∧
    exsReady s = false ∧ (after (exec (.exPayStall default) s)).ex = s.ex ∧
    (after (exec (.exPayStall default) s)).out.ex.l2rxReady = false ∧
    t.curIn.l2rx.valid = false ∧ (after (exec (.exPayStall default) t)).ex.first = true := by decide
/-- EX-14. -/
theorem test_exIllegal_holds :
    let s := rxPath 0b11#2 3 true R_IDLE (rawBeat true false) true
    s.ex.state = 0b11#2 ∧ (after (exec (.exIllegal default) s)).ex = s.ex ∧
    (after (exec (.exIllegal default) s)).out.ex = {} := by decide
/-- EX-16. -/
theorem test_header_fields :
    version hdr8c = 4 ∧ ihl hdr8c = 5 ∧ totalLength hdr8c = 28 ∧ ttl hdr8c = 0x80 ∧ protocol hdr8c = 17 ∧
    checksumField hdr8c = 0x26CF ∧ srcIp hdr8c = 0x0A000001 ∧ dstIp hdr8c = 0x0A000002 := by decide

/-! Transmit pipeline (95_test_vectors.md, TXP). -/

theorem test_txStart_latches :
    let s := { txPath F_HEADER 0 T_IDLE {} false with tx := ⟨T_IDLE, 0, 5⟩ }
    s.tx.state = T_IDLE ∧
    (frs s).valid = true ∧ (frs s).sop = true ∧ ckDone s .tx = true ∧
    (after (exec (.txStart default) s)).tx = ⟨T_REQUEST, 0x0A000002, 5⟩ := by decide
/-- Each of the three ways to wait. -/
theorem test_txIdleWait_keeps :
    let s := { txPath F_HEADER 0 T_IDLE {} false with ckTx := ⟨0x451C, 3⟩ }
    let t := txPath F_HEADER 1 T_IDLE {} false
    let u := txPath F_IDLE 0 T_IDLE {} false
    s.tx.state = T_IDLE ∧ t.tx.state = T_IDLE ∧ u.tx.state = T_IDLE ∧
    ckDone s .tx = false ∧ (after (exec (.txIdleWait default) s)).tx = s.tx ∧
    (frs t).sop = false ∧ (after (exec (.txIdleWait default) t)).tx = t.tx ∧ (frs u).valid = false := by decide
theorem test_txReqAccept_asks :
    let s := resolving T_REQUEST true {}
    s.tx.state = T_REQUEST ∧
    s.curIn.arqReady = true ∧ (after (exec (.txReqAccept default) s)).tx.state = T_AWAIT ∧
    (after (exec (.txReqAccept default) s)).out.tx.arq = ⟨true, 0x0A000002⟩ := by decide
theorem test_txReqWait_holds :
    let s := resolving T_REQUEST false {}
    s.tx.state = T_REQUEST ∧
    s.curIn.arqReady = false ∧ (after (exec (.txReqWait default) s)).tx = s.tx ∧
    (after (exec (.txReqWait default) s)).out.tx.arq = ⟨true, 0x0A000002⟩ := by decide
theorem test_txResolved_latches :
    let s := resolving T_AWAIT false (arsOk 0x020000000003)
    s.tx.state = T_AWAIT ∧
    s.curIn.ars.valid = true ∧ s.curIn.ars.failed = false ∧
    (after (exec (.txResolved default) s)).tx = ⟨T_SEND, 0x0A000002, 0x020000000003⟩ := by decide
theorem test_txUnresolved_drops :
    let s := resolving T_AWAIT false { arsFail with mac := 7 }
    s.tx.state = T_AWAIT ∧
    s.curIn.ars.valid = true ∧ s.curIn.ars.failed = true ∧
    (after (exec (.txUnresolved default) s)).tx = ⟨T_DROP, 0x0A000002, 0x020000000002⟩ ∧
    (after (exec (.txUnresolved default) s)).out.tx.unreachable = true ∧
    (after (exec (.txUnresolved default) s)).events = [⟨.addressUnresolved, .TXP, 1⟩] := by decide
theorem test_txAwaitWait_waits :
    let s := resolving T_AWAIT false {}
    s.tx.state = T_AWAIT ∧
    s.curIn.ars.valid = false ∧ (after (exec (.txAwaitWait default) s)).out.tx = { arsReady := true } := by decide
theorem test_txSendBeat_sends :
    let s := txPath F_HEADER 0 T_SEND {} true
    s.tx.state = T_SEND ∧
    (frs s).valid = true ∧ (frs s).eop = false ∧ s.curIn.l2txReady = true ∧
    (after (exec (.txSendBeat default) s)).out.tx.l2tx =
      ⟨true, 0x45, true, false, false, 0x020000000002, 0x020000000001, 0x0800⟩ := by decide
theorem test_txSendEop_returns :
    let s := txPath F_PAYLOAD 19 T_SEND (subBeat false true) true
    s.tx.state = T_SEND ∧
    (frs s).valid = true ∧ (frs s).eop = true ∧ s.curIn.l2txReady = true ∧
    (after (exec (.txSendEop default) s)).tx.state = T_IDLE ∧
    (after (exec (.txSendEop default) s)).out.tx.l2tx.eop = true := by decide
theorem test_txSendStall_holds :
    let s := txPath F_HEADER 3 T_SEND {} false
    let t := txPath F_PAYLOAD 19 T_SEND {} true
    s.tx.state = T_SEND ∧ t.tx.state = T_SEND ∧
    s.curIn.l2txReady = false ∧ (after (exec (.txSendStall default) s)).out.tx.l2tx.data = 0x1C ∧
    (frs t).valid = false ∧ (after (exec (.txSendStall default) t)).tx = t.tx := by decide
theorem test_txDropBeat_discards :
    let s := txPath F_HEADER 0 T_DROP {} false
    s.tx.state = T_DROP ∧
    (frs s).valid = true ∧ (frs s).eop = false ∧
    (after (exec (.txDropBeat default) s)).out.tx = { frsReady := true } := by decide
theorem test_txDropEop_returns :
    let s := txPath F_PAYLOAD 19 T_DROP (subBeat false true) false
    s.tx.state = T_DROP ∧
    (frs s).valid = true ∧ (frs s).eop = true ∧ (after (exec (.txDropEop default) s)).tx.state = T_IDLE := by decide
theorem test_txDropWait_waits :
    let s := txPath F_PAYLOAD 19 T_DROP {} true
    s.tx.state = T_DROP ∧
    (frs s).valid = false ∧ (after (exec (.txDropWait default) s)).tx = s.tx := by decide
/-- The lowest and the highest unused code. -/
theorem test_txIllegal_holds :
    let s := txPath F_HEADER 0 0b101#3 {} true
    let t := txPath F_HEADER 0 0b111#3 {} true
    s.tx.state = 0b101#3 ∧ t.tx.state = 0b111#3 ∧
    (after (exec (.txIllegal default) s)).tx = s.tx ∧ (after (exec (.txIllegal default) s)).out.tx = {} ∧
    (after (exec (.txIllegal default) t)).events = [⟨.illegalState, .TXP, 1⟩] := by decide

/-! Receive pipeline (95_test_vectors.md, RXP). -/

theorem test_rxStart_checks :
    let s := rxPath E_PAYLOAD 19 true R_IDLE (rawBeat false false) true
    s.rx.state = R_IDLE ∧
    (exs s).valid = true ∧ (exs s).sop = true ∧ (after (exec (.rxStart default) s)).rx.state = R_CHECK := by decide
theorem test_rxIdleWait_waits :
    let s := rxPath E_HEADER 5 false R_IDLE (rawBeat false false) true
    let t := rxPath E_PAYLOAD 19 false R_IDLE (rawBeat false false) true
    s.rx.state = R_IDLE ∧ t.rx.state = R_IDLE ∧
    (exs s).valid = false ∧ (after (exec (.rxIdleWait default) s)).rx = s.rx ∧
    (exs t).valid = true ∧ (exs t).sop = false ∧ (after (exec (.rxIdleWait default) t)).rx = t.rx := by decide
theorem test_rxAccept_presents :
    let s := rxPath E_PAYLOAD 19 true R_CHECK (rawBeat false false) true
    s.rx.state = R_CHECK ∧
    ckDone s .rx = true ∧ hdrOk s = true ∧ (after (exec (.rxAccept default) s)).rx.state = R_PRESENT := by decide
/-- R260: each of the three causes. -/
theorem test_rxReject_causes :
    let s := rxPath E_PAYLOAD 19 true R_CHECK (rawBeat false false) true
    let m := { s with ex := { s.ex with g := hdr8c.set 0 0x46 } }
    let c := { s with ckRx := ⟨0xFFFE, 10⟩ }
    let a := { s with cfg := Config.programP1 }
    s.rx.state = R_CHECK ∧
    ckDone m .rx = true ∧ hdrOk m = false ∧
    (after (exec (.rxReject default) m)).events = [⟨.malformedHeader, .RXP, 1⟩] ∧ hdrOk c = false ∧
    (after (exec (.rxReject default) c)).events = [⟨.checksumMismatch, .RXP, 1⟩] ∧ hdrOk a = false ∧
    (after (exec (.rxReject default) a)).events = [⟨.notAddressedHere, .RXP, 1⟩] ∧
    (after (exec (.rxReject default) a)).rx.state = R_DROP := by decide
theorem test_rxCheckWait_waits :
    let s := { rxPath E_PAYLOAD 19 true R_CHECK (rawBeat false false) true with ckRx := ⟨0, 9⟩ }
    s.rx.state = R_CHECK ∧
    ckDone s .rx = false ∧ (after (exec (.rxCheckWait default) s)).rx = s.rx := by decide
/-- The example of R267. -/
theorem test_rxPresentBeat_forwards :
    let s := rxPath E_PAYLOAD 19 true R_PRESENT (rawBeat false false) true
    s.rx.state = R_PRESENT ∧
    (exs s).valid = true ∧ (exs s).eop = false ∧ rxoReady s = true ∧
    (after (exec (.rxPresentBeat default) s)).out.rx.rxo = ⟨true, 0xDE, true, false, false, 0x0A000001, 17, 8⟩ := by decide
theorem test_rxPresentEop_returns :
    let s := rxPath E_PAYLOAD 19 false R_PRESENT (rawBeat false true) true
    s.rx.state = R_PRESENT ∧
    (exs s).valid = true ∧ (exs s).eop = true ∧ rxoReady s = true ∧
    (after (exec (.rxPresentEop default) s)).rx.state = R_IDLE := by decide
theorem test_rxPresentStall_holds :
    let s := rxPath E_PAYLOAD 19 false R_PRESENT (rawBeat false true) false
    let t := rxPath E_PAYLOAD 19 false R_PRESENT {} true
    s.rx.state = R_PRESENT ∧ t.rx.state = R_PRESENT ∧
    rxoReady s = false ∧ (after (exec (.rxPresentStall default) s)).rx = s.rx ∧
    (exs t).valid = false ∧ (after (exec (.rxPresentStall default) t)).rx = t.rx := by decide
theorem test_rxDropBeat_discards :
    let s := rxPath E_PAYLOAD 19 true R_DROP (rawBeat false false) false
    s.rx.state = R_DROP ∧
    (exs s).valid = true ∧ (exs s).eop = false ∧
    (after (exec (.rxDropBeat default) s)).out.rx = { exsReady := true } := by decide
theorem test_rxDropEop_returns :
    let s := rxPath E_PAYLOAD 19 true R_DROP (rawBeat false true) false
    s.rx.state = R_DROP ∧
    (exs s).valid = true ∧ (exs s).eop = true ∧ (after (exec (.rxDropEop default) s)).rx.state = R_IDLE := by decide
theorem test_rxDropWait_waits :
    let s := rxPath E_PAYLOAD 19 true R_DROP {} false
    s.rx.state = R_DROP ∧
    (exs s).valid = false ∧ (after (exec (.rxDropWait default) s)).rx.state = R_DROP := by decide

/-! Crossbar (95_test_vectors.md, XB). -/

/-- Three ports, of which some request. -/
def threePorts (grant : BitVec 2) (busy : Bool) (r : List Bool) : State :=
  { State.reset with
    cfg := { Config.programP1 with proto := [1, 6, 17] }, arb := ⟨⟨2, grant⟩, busy⟩
    inputs := [{ utx := r.map (fun v => { subBeat true false with valid := v }) }] }

/-- R304: after port 1 the order is 2, 0, 1. -/
theorem test_xbArbGrant_rotates :
    let s := threePorts 1 false [true, true, false]
    let t := threePorts 1 false [false, true, false]
    t.arb.busy = false ∧
    s.arb.busy = false ∧ anyReq s = true ∧ (after (exec (.xbArbGrant default) s)).arb = ⟨⟨2, 0⟩, true⟩ ∧
    (after (exec (.xbArbGrant default) t)).arb = ⟨⟨2, 1⟩, true⟩ := by decide
theorem test_xbArbIdle_keeps :
    let s := threePorts 2 false [false, false, false]
    s.arb.busy = false ∧
    anyReq s = false ∧ (after (exec (.xbArbIdle default) s)).arb = ⟨⟨2, 2⟩, false⟩ := by decide
theorem test_xbMuxBeat_passes :
    let s := txPath F_PAYLOAD 19 T_SEND (subBeat false false) true
    s.arb.busy = true ∧
    (mo s).valid = true ∧ moReady s = true ∧ (mo s).eop = false ∧
    (after (exec (.xbMuxBeat default) s)).out.mux.utxReady = [true] := by decide
theorem test_xbMuxEop_releases :
    let s := txPath F_PAYLOAD 19 T_SEND (subBeat false true) true
    s.arb.busy = true ∧
    (mo s).valid = true ∧ moReady s = true ∧ (mo s).eop = true ∧
    (after (exec (.xbMuxEop default) s)).arb = ⟨⟨1, 0⟩, false⟩ := by decide
theorem test_xbMuxStall_holds :
    let s := txPath F_HEADER 3 T_SEND (subBeat true false) true
    let t := txPath F_PAYLOAD 19 T_SEND {} true
    s.arb.busy = true ∧ t.arb.busy = true ∧
    moReady s = false ∧ (after (exec (.xbMuxStall default) s)).arb = ⟨⟨1, 0⟩, true⟩ ∧
    (mo t).valid = false ∧ (after (exec (.xbMuxStall default) t)).arb = ⟨⟨1, 0⟩, true⟩ := by decide
theorem test_xbDmxDeliver_routes :
    let s := rxPath E_PAYLOAD 19 true R_PRESENT (rawBeat false false) true
    (rxo s).valid = true ∧ portOf s.cfg (rxo s).protocol = some 1 ∧ s.urxReadyAt 1 = true ∧
    (after (exec .xbDmxDeliver s)).out.dmx.urx = [{}, rxo s] := by decide
theorem test_xbDmxStall_holds :
    let s := rxPath E_PAYLOAD 19 true R_PRESENT (rawBeat false false) false
    (rxo s).valid = true ∧ portOf s.cfg (rxo s).protocol = some 1 ∧ s.urxReadyAt 1 = false ∧
    (after (exec .xbDmxStall s)).out.dmx.rxoReady = false := by decide
/-- R313: recorded on the sop beat and on no other. -/
theorem test_xbDmxDiscard_records_once :
    let c := { cfgP3 with proto := [1, 6] }
    let s := { rxPath E_PAYLOAD 19 true R_PRESENT (rawBeat false false) true with cfg := c }
    let t := { rxPath E_PAYLOAD 19 false R_PRESENT (rawBeat false false) true with cfg := c }
    (rxo s).valid = true ∧ portOf s.cfg (rxo s).protocol = none ∧
    (after (exec (.xbDmxDiscard default) s)).events = [⟨.unregisteredProtocol, .DMX, 1⟩] ∧
    (after (exec (.xbDmxDiscard default) t)).events = [] ∧
    (after (exec (.xbDmxDiscard default) t)).out.dmx = ⟨true, [{}, {}]⟩ := by decide
theorem test_xbDmxIdle_drives_nothing :
    let s := rxPath E_PAYLOAD 19 true R_CHECK (rawBeat false false) true
    (rxo s).valid = false ∧ (after (exec (.xbDmxIdle default) s)).out.dmx.urx = [{}, {}] := by decide
/-- R412, R111: in a gap of the packet, `L2RX.ready` is the ready of the packet's port, and `DMXSEL` reads the protocol number 0. -/
theorem test_gap_waits_for_the_port :
    let s := rxPath E_PAYLOAD 19 false R_PRESENT {} false
    s.rx.state = R_PRESENT ∧ s.ex.state = E_PAYLOAD ∧ portOf s.cfg s.ex.g[9] = some 1 ∧ s.urxReadyAt 1 = false ∧
    (rxo s).valid = false ∧ l2rxReady s = false ∧ dmxSel s = ⟨false, false, false⟩ ∧
    l2rxReady (rxPath E_PAYLOAD 19 false R_PRESENT {} true) = true := by decide
/-- R349, R66: a granted port's other signals without `valid` do not reach `MO`. -/
theorem test_mo_without_beat :
    let s := txPath F_IDLE 0 T_IDLE { subBeat true true with valid := false } false
    s.arb.busy = true ∧ s.curIn.utx = [{ subBeat true true with valid := false }] ∧ mo s = {} ∧ moReady s = true := by decide
/-- L1-5: `PROTO = [17, 17]` is refused, `PROTO = [1, 17]` is built. -/
theorem test_xbRegister_builds :
    let s := { State.reset with cfg := { Config.programP1 with proto := [1] }, pending := [17] }
    let r := { State.reset with cfg := { Config.programP1 with proto := [1, 6] }, arb := ⟨⟨1, 1⟩, false⟩, pending := [17] }
    s.pending = 17 :: [] ∧ 17 ∉ s.cfg.proto ∧ (after (exec .xbRegister s)).cfg.proto = [1, 17] ∧
    (after (exec .xbRegister s)).pending = [] ∧ (after (exec .xbRegister r)).arb = ⟨⟨2, 1⟩, false⟩ := by decide
theorem test_xbRegisterDup_refuses :
    let s := { State.reset with pending := [17] }
    s.pending = 17 :: [] ∧ 17 ∈ s.cfg.proto ∧ (after (exec .xbRegisterDup s)).refused = true ∧
    (after (exec .xbRegisterDup s)).events = [⟨.duplicateRegistration, .CFG, 1⟩] := by decide
theorem test_refused_stops :
    step { State.reset with refused := true } = .fault .configurationRefused ∧
    step { State.reset with cfg := { Config.programP1 with wpc := 11 } } = .fault .illegalConfiguration := by
  exact ⟨rfl, rfl⟩

/-! The cycle. -/

/-- The example of R351: the last beat of a datagram moves four units at once. -/
theorem test_run_last_beat :
    let s := txPath F_PAYLOAD 19 T_SEND (subBeat false true) true
    (after (exec .run s)).tx.state = T_IDLE ∧ (after (exec .run s)).fr.state = F_IDLE ∧
    (after (exec .run s)).arb.busy = false ∧ (after (exec .run s)).ckTx = ⟨0xD930, 9⟩ := by decide
/-- The example of R400, from an illegal state code too. -/
theorem test_reset_from_send :
    let s := txPath 0b11#2 19 T_SEND (subBeat false true) true
    (after (exec .reset s)).tx = ⟨T_IDLE, 0, 0⟩ ∧ (after (exec .reset s)).fr = ⟨F_IDLE, 0, Header.zero⟩ ∧
    (after (exec .reset s)).arb = ⟨⟨1, 0⟩, false⟩ ∧ (after (exec .reset s)).events = [] := by decide

/-! States that meet the hypotheses of the statements about the whole machine. -/

theorem test_running : Running (txPath F_PAYLOAD 19 T_SEND (subBeat false true) false) :=
  ⟨by decide, by decide, by decide, by decide⟩

/-- A state in the middle of a packet on both paths, over the configuration of P3. -/
def busyState : State :=
  { rxPath E_PAYLOAD 19 true R_PRESENT (rawBeat false false) false with
    arb := ⟨⟨1, 1⟩, true⟩, fr := ⟨F_PAYLOAD, 19, hdr8⟩, ckTx := ⟨0xD930, 9⟩, tx := ⟨T_SEND, 0x0A000002, 0x020000000002⟩
    inputs := List.replicate 2 { utx := [{}, subBeat false false], l2rx := rawBeat false false } }

theorem test_busyState_sound : Sound busyState :=
  ⟨⟨by decide, by decide, by decide, by decide, by decide, by decide, by decide, by decide, by decide, by decide, by decide⟩,
   ⟨by decide, by decide, by decide, by decide, by decide, by decide⟩⟩

theorem test_busyState_running : Running busyState := ⟨by decide, by decide, by decide, by decide⟩

theorem test_busyState_tracks : ChecksumTracks busyState := ⟨by decide, by decide⟩

theorem test_busyState_steps : step busyState = .next (after (step busyState)) := by rfl

/-- `ValueAtDoneIsTheChecksum`, `InsertedChecksumVerifies`: both engines are done outside idle. -/
theorem test_busyState_done :
    busyState.cfg.legal = true ∧ busyState.fr.state ≠ F_IDLE ∧ ckDone busyState .tx = true ∧
    busyState.rx.state ≠ R_IDLE ∧ ckDone busyState .rx = true ∧
    (∀ i : Fin 20, (put16 hdr8 10 0x26CF)[i] = headerByte busyState i.val i.isLt) := by decide

/-- `OutputsHoldUntilTransfer`: two running cycles in which beats wait on `L2TX` and `URX[1]` and the environment holds its own. -/
theorem test_busyState_holds :
    let t := after (step busyState)
    let v := after (step t)
    Running t ∧ step t = .next v ∧ holdsUntilTransfer t v = true ∧ t.out.tx.l2tx.valid = true ∧
    t.seen.l2txReady = false ∧ (t.out.dmx.urx.getD 1 {}).valid = true ∧ t.seen.urxReady.getD 1 false = false :=
  ⟨⟨by decide, by decide, by decide, by decide⟩, by rfl, by decide, by decide, by decide, by decide, by decide⟩

/-- The same for `ARQ`. -/
theorem test_request_holds :
    let s := { resolving T_REQUEST false {} with inputs := [{}, {}] }
    let t := after (step s)
    let v := after (step t)
    step s = .next t ∧ step t = .next v ∧ holdsUntilTransfer t v = true ∧ t.out.tx.arq.valid = true ∧
    t.seen.arqReady = false ∧ v.out.tx.arq = ⟨true, 0x0A000002⟩ :=
  ⟨by rfl, by rfl, by decide, by decide, by decide, by decide⟩

/-- `UnreachableIsOneCycle`, `OneEventPerPath`: a cycle that records one. -/
theorem test_unreachable_cycle :
    let s := resolving T_AWAIT false arsFail
    s.pending = [] ∧ step s = .next (after (step s)) ∧ (after (step s)).out.tx.unreachable = true ∧
    (after (step s)).events = [⟨.addressUnresolved, .TXP, 1⟩] := ⟨by rfl, by rfl, by decide, by decide⟩

/-- `PathsShareNothing`: two states that agree on one path and differ on the other. -/
theorem test_paths_agree :
    TransmitAgree busyState { busyState with rx := ⟨R_DROP⟩ } ∧ ReceiveAgree busyState { busyState with tx := ⟨T_DROP, 0, 0⟩ } :=
  ⟨⟨rfl, rfl, rfl, rfl, rfl, rfl, rfl, rfl, rfl, rfl⟩, ⟨rfl, rfl, rfl, rfl, rfl, rfl, rfl⟩⟩

/-- `ValidDoesNotDependOnReady`, `ErrorFlagPassesUnchanged`: cycles that differ in ready inputs, and in an error flag. -/
theorem test_variants_step :
    let i := busyState.curIn
    step { busyState with inputs := [i] } = .next (after (step { busyState with inputs := [i] })) ∧
    step { busyState with inputs := [{ i with l2txReady := true }] } =
      .next (after (step { busyState with inputs := [{ i with l2txReady := true }] })) ∧
    step { busyState with inputs := [{ i with l2rx := { i.l2rx with error := true } }] } =
      .next (after (step { busyState with inputs := [{ i with l2rx := { i.l2rx with error := true } }] })) :=
  ⟨by rfl, by rfl, by rfl⟩

/-- `GrantIsExclusive`, `DeliveriesNeverCross`: a busy cycle that delivers on port 1. -/
theorem test_busyState_delivers :
    busyState.arb.busy = true ∧ ((after (step busyState)).out.dmx.urx.getD 1 {}).valid = true ∧
    (after (step busyState)).out.mux.mo = subBeat false false := by decide

/-- `HeadersAreStable`: a cycle that writes `H`. -/
theorem test_header_changes :
    let s := txPath F_IDLE 0 T_IDLE { subBeat true false with dstIp := 0x0A000003 } false
    step s = .next (after (step s)) ∧ (after (step s)).fr.h ≠ s.fr.h := ⟨by rfl, by decide⟩

/-- `SingleBitErrorIsDetected`: a corrupted header at the end of its check. -/
theorem test_corrupted_header :
    let g := hdr8c.set 11 (hdr8c[11] ^^^ (1#8 <<< 0))
    let s := { rxPath E_PAYLOAD 19 true R_CHECK (rawBeat false false) true with
      ex := ⟨E_PAYLOAD, 19, true, g⟩, ckRx := ⟨foldSum ((wordList .rx).map (headerWord g)), 10⟩ }
    cksum hdr8c .rx = 0 ∧ s.rx.state = R_CHECK ∧ ckDone s .rx = true ∧ s.ex.g = g ∧ hdrOk s = false := by decide

/-- `GrantRegister`: a running cycle of three ports that writes `arb_grant`, and the widths of R36 for 1 to 5, 256 ports. -/
theorem test_grant_changes :
    let s := threePorts 2 false [true, false, true]
    Running s ∧ step s = .next (after (step s)) ∧ (after (step s)).arb = ⟨⟨2, 0⟩, true⟩ ∧ (s.utxAt 0).valid = true ∧
    [1, 2, 3, 4, 5, 256].map (fun n => max 1 (ceilLog2 n)) = [1, 1, 2, 2, 3, 8] :=
  ⟨⟨by decide, by decide, by decide, by decide⟩, by rfl, by decide, by decide, by decide⟩

/-- `LeftoverValuesAreNotRead`: after a dropped packet on each path, against the values of reset (R381). -/
theorem test_leftover_unread :
    let s := { State.reset with inputs := [{}] }
    let t := { s with fr := ⟨F_IDLE, 19, hdr8⟩, ex := ⟨E_IDLE, 11, false, hdr8c⟩, tx := ⟨T_IDLE, 0x0A000002, 0x020000000002⟩ }
    Sound s ∧ Sound t ∧ SameButUnread s t ∧ step s = .next (after (step s)) ∧ step t = .next (after (step t)) :=
  ⟨⟨⟨by decide, by decide, by decide, by decide, by decide, by decide, by decide, by decide, by decide, by decide, by decide⟩,
    ⟨by decide, by decide, by decide, by decide, by decide, by decide⟩⟩,
   ⟨⟨by decide, by decide, by decide, by decide, by decide, by decide, by decide, by decide, by decide, by decide, by decide⟩,
    ⟨by decide, by decide, by decide, by decide, by decide, by decide⟩⟩,
   ⟨rfl, rfl, rfl, rfl, rfl, rfl, rfl, rfl, by decide, rfl, rfl, by decide, by decide, by decide, rfl, by decide, by decide, rfl, rfl⟩,
   by rfl, by rfl⟩

/-- A step of each phase (`StepRunsTheSelectedOperation`). -/
theorem test_step_phases :
    let s := { State.reset with inputs := [{ rst := true }] }
    let r := { State.reset with pending := [6] }
    s.refused = false ∧ s.pending = [] ∧ s.cfg.legal = true ∧ decode (selWord s .top) = .ok .reset ∧
    r.pending ≠ [] ∧ decode (selWord r .cfg) = .ok .xbRegister := by decide

/-- A bare word of the opcode table, read by the decoder and run by the next step (log entries 10 and 11). -/
theorem test_bare_words :
    decodeTableWord 8 0x0C = some (.frLoad ⟨F_IDLE, false, true, true, false, false⟩) ∧
    decodeTableWord 16 0x206 = some (.txUnresolved ⟨T_AWAIT, false, false, false, false, false, true, true, false⟩) ∧
    (after (step (State.reset.withFetchWord 16 0x206))).out.tx.unreachable = true := by decide

end Sys2Proof.Tests
end

section
/-! SUPPORT. The state after reset and the grant register (10_state.md R36, R43). At the end of each part stand the theorems that settle
its obligations. -/

namespace Sys2Proof.Machine

open Sys2Proof.Safety

/-! The state after reset (10_state.md R43, 70_reset_and_hazards.md R401). -/

/-- `State.reset` holds the reset values that `RESET` writes for its configuration. -/
theorem reset_resetRegisters : State.reset.resetRegisters = State.reset := rfl

/-- A legal registry has at least one port and no repeated entry. -/
theorem registry_of_legal {c : Config} (h : c.legal = true) : 1 ≤ c.nports ∧ c.proto.Nodup := by
  simp only [Config.legal, Bool.and_eq_true, decide_eq_true_eq] at h
  exact h.1.1

/-- With every register at its reset value each range holds: the counters and indices are 0, `H` is all zero, and the grant names the
last port. -/
theorem inRange_resetRegisters {s : State} (hl : s.cfg.legal = true) : InRange s.resetRegisters := by
  obtain ⟨hn, hd⟩ := registry_of_legal hl
  have hg : s.resetRegisters.arb.grant.index = s.cfg.nports - 1 := ofPort_last s.cfg
  exact {
    ckTx := Nat.zero_le _
    ckRx := Nat.zero_le _
    frState := show F_IDLE ≠ 0b11#2 by decide
    frIdx := by simp
    frChecksum := by simp only [resetRegisters_fr]; decide
    exState := show E_IDLE ≠ 0b11#2 by decide
    exCnt := by simp
    txState := by simp
    grantBits := rfl
    grant := .inl (by rw [hg, resetRegisters_cfg]; omega)
    registry := hd }

/-- With every state register at its idle code nothing is coupled to a packet. -/
theorem coupled_resetRegisters (s : State) : Coupled s.resetRegisters where
  frIdle := fun _ => rfl
  resolving := fun h => absurd h (show ¬(T_IDLE = T_REQUEST ∨ T_IDLE = T_AWAIT) by decide)
  txChecked := fun h => absurd rfl h
  exBuffering := fun _ => rfl
  frBusy := fun h => absurd rfl h
  rxChecked := fun h => absurd h (show ¬(R_IDLE = R_PRESENT ∨ R_IDLE = R_DROP) by decide)

/-- A state whose registers hold their reset values is sound, for every legal configuration. -/
theorem sound_of_resetRegisters {s : State} (hl : s.cfg.legal = true) (hr : s.resetRegisters = s) : Sound s :=
  hr ▸ ⟨inRange_resetRegisters hl, coupled_resetRegisters s⟩

/-- Settles O45: `State.reset` is its own reset, and `RESET` writes the values of R43. -/
theorem resetStateValues : Obligations.ResetStateValues := by
  unfold Obligations.ResetStateValues
  rw [← reset_resetRegisters]
  exact ⟨resetRegisters_ckTx _, resetRegisters_ckRx _, resetRegisters_fr _, resetRegisters_ex _, resetRegisters_tx _,
    resetRegisters_rx _, resetRegisters_arb _⟩

/-- Settles O47: `State.reset` and the state after a reset cycle both hold the reset values of a legal configuration. -/
theorem resetIsSound : Obligations.ResetIsSound := by
  unfold Obligations.ResetIsSound
  refine ⟨sound_of_resetRegisters (by decide) reset_resetRegisters, fun s t hl h => ?_⟩
  obtain rfl : resetCycle s = t := Host.Outcome.next.inj h
  exact sound_of_resetRegisters hl rfl

/-! The grant register (10_state.md R36, 46_crossbar.md R304, R305). -/

/-- `ceilLog2` is the library's ceiling logarithm. -/
theorem ceilLog2_eq_clog (n : Nat) : ceilLog2 n = Nat.clog 2 n := by
  refine le_antisymm ?_ (Nat.clog_le_of_le_pow (le_two_pow_ceilLog2 n))
  unfold ceilLog2
  split
  · exact Nat.zero_le _
  · rename_i hn
    have hp : 2 ^ (n - 1).log2 ≤ n - 1 := Nat.log2_self_le (by omega)
    exact (Nat.lt_clog_iff_pow_lt (by decide)).2 (by omega)

/-- A running cycle changes the grant only while the multiplexer is free and some port requests. -/
theorem free_of_arbNext_grant_ne {s : State} (h : (arbNext s).grant ≠ s.arb.grant) :
    s.arb.busy = false ∧ anyReq s = true := by
  unfold arbNext at h
  split at h
  · split at h <;> exact absurd rfl h
  · split at h
    · rename_i hb ha
      exact ⟨by simpa using hb, ha⟩
    · exact absurd rfl h

/-- A free multiplexer with a request selects `XB_ARB_GRANT`. -/
theorem selects_xbArbGrant {s : State} (hb : s.arb.busy = false) (ha : anyReq s = true) :
    Selects s .arb (.xbArbGrant (arbSel s)) := by
  simp [Selects, selWord, decode_arb, arbSel, hb, ha]

/-- From the reset value of the grant the rotation starts at port 0. -/
theorem nextGrant_last {s : State} (h : (s.utxAt 0).valid = true) : nextGrant s (s.cfg.nports - 1) = some 0 := by
  obtain ⟨m, hm⟩ := Nat.exists_eq_add_one.2 (lt_nports_of_utxAt h)
  simp [nextGrant, hm, List.range_succ_eq_map, h]

/-- Settles O59, one lemma per part. -/
theorem grantRegister : Obligations.GrantRegister := by
  unfold Obligations.GrantRegister
  refine ⟨fun c => by rw [grantWidth, ceilLog2_eq_clog], fun c k hk => ⟨rfl, ofPort_index hk⟩, fun s t hr h hne => ?_,
    fun s t h => ?_, fun s => nextGrant_last⟩
  · rw [step_running hr h, runCycle_arb] at hne
    obtain ⟨hb, ha⟩ := free_of_arbNext_grant_ne hne
    exact selects_xbArbGrant hb ha
  · obtain rfl : resetCycle s = t := Host.Outcome.next.inj h
    exact ⟨rfl, ofPort_last s.cfg⟩

end Sys2Proof.Machine
end

section
/-! SUPPORT. The events of a running cycle: what each unit records, and that the cycle records these and nothing else
(60_exceptions.md R370, R379, R380). -/

namespace Sys2Proof.Machine

/-! Which register values have no meaning (30_encoding.md R121, 42_framer.md R172, 43_extractor.md R203, 44_tx_pipeline.md R234). -/

/-- The fourth code of the framer's and of the extractor's state is the unused one. -/
theorem eq_unused_code {c : BitVec 2} (h0 : c ≠ 0b00#2) (h1 : c ≠ 0b01#2) (h2 : c ≠ 0b10#2) : c = 0b11#2 := by
  revert c; decide

theorem frIllegal_of_payload {r : FrRegs} (h : r.state = F_PAYLOAD) : frIllegal r = false := by
  rw [frIllegal, h]; rfl

theorem frIllegal_of_last {r : FrRegs} (h : r.state = F_HEADER) (hi : r.idx = 19) : frIllegal r = false := by
  rw [frIllegal, h, hi]; rfl

theorem frIllegal_of_unused {r : FrRegs} (h0 : r.state ≠ F_IDLE) (h1 : r.state ≠ F_HEADER) (h2 : r.state ≠ F_PAYLOAD) :
    frIllegal r = true := by
  simp [frIllegal, eq_unused_code h0 h1 h2]

theorem exIllegal_of_payload {r : ExRegs} (h : r.state = E_PAYLOAD) : exIllegal r = false := by
  rw [exIllegal, h]; rfl

theorem exIllegal_of_last {r : ExRegs} (h : r.state = E_HEADER) (hc : r.cnt = 19) : exIllegal r = false := by
  rw [exIllegal, h, hc]; rfl

theorem exIllegal_of_unused {r : ExRegs} (h0 : r.state ≠ E_IDLE) (h1 : r.state ≠ E_HEADER) (h2 : r.state ≠ E_PAYLOAD) :
    exIllegal r = true := by
  simp [exIllegal, eq_unused_code h0 h1 h2]

/-- The transmit pipeline's state codes above 4 are the unused ones. -/
theorem four_lt_of_unused {c : BitVec 3} (h0 : c ≠ T_IDLE) (h1 : c ≠ T_REQUEST) (h2 : c ≠ T_AWAIT) (h3 : c ≠ T_SEND)
    (h4 : c ≠ T_DROP) : 4 < c.toNat := by
  revert c; decide

variable (s : State)

/-! What each unit records. -/

/-- What a checksum engine records in a cycle: `IllegalState` when its counter is past the last batch (30_encoding.md R121). -/
def ckRaised (u : CkInst) : List Event :=
  if !ckResetIn s u && ckCeIn s u && !ckDone s u && decide (numBatches s.cfg u ≤ (s.ck u).cnt.toNat) then
    [⟨.illegalState, ckUnit u, s.cycle⟩]
  else []

/-- What the framer records in a cycle: `StrayBeat` for a beat it discards while idle (42_framer.md R164), `IllegalState` (R172). -/
def frRaised : List Event :=
  if s.fr.state = F_IDLE then if (mo s).valid && !(mo s).sop then [⟨.strayBeat, .FR, s.cycle⟩] else []
  else if frIllegal s.fr then [⟨.illegalState, .FR, s.cycle⟩] else []

/-- What the extractor records in a cycle: `RuntFrame` for a frame that ends on its first byte or inside its header, `StrayBeat` for a
beat outside a frame, `IllegalState` (43_extractor.md R193, R194, R198, R203). -/
def exRaised : List Event :=
  if s.ex.state = E_IDLE then
    if s.curIn.l2rx.valid then
      if !s.curIn.l2rx.sop then [⟨.strayBeat, .EX, s.cycle⟩]
      else if s.curIn.l2rx.eop then [⟨.runtFrame, .EX, s.cycle⟩] else []
    else []
  else if exIllegal s.ex then [⟨.illegalState, .EX, s.cycle⟩]
  else if s.ex.state = E_HEADER then
    if s.curIn.l2rx.valid && s.curIn.l2rx.eop then [⟨.runtFrame, .EX, s.cycle⟩] else []
  else []

/-- What the transmit pipeline records in a cycle: `AddressUnresolved`, `IllegalState` (44_tx_pipeline.md R226, R234). -/
def txRaised : List Event :=
  if s.tx.state = T_AWAIT then
    if s.curIn.ars.valid && s.curIn.ars.failed then [⟨.addressUnresolved, .TXP, s.cycle⟩] else []
  else if 4 < s.tx.state.toNat then [⟨.illegalState, .TXP, s.cycle⟩] else []

/-- What the receive pipeline records in a cycle: the cause of a rejected header (45_rx_pipeline.md R265). -/
def rxRaised : List Event :=
  if s.rx.state = R_CHECK then
    if ckDone s .rx && !hdrOk s then [⟨rejectCause s, .RXP, s.cycle⟩] else []
  else []

/-- What the demultiplexer records in a cycle: `UnregisteredProtocol` on the sop beat of a packet for no port (46_crossbar.md R313). -/
def dmxRaised : List Event :=
  if (rxo s).valid && !mOk s && (rxo s).sop then [⟨.unregisteredProtocol, .DMX, s.cycle⟩] else []

/-! Each unit records what its function above says. -/

@[simp] theorem commitCk_events (u : CkInst) (r : CkRegs) : (s.commitCk u r).events = s.events := by cases u <;> rfl

@[simp] theorem commitCk_cycle (u : CkInst) (r : CkRegs) : (s.commitCk u r).cycle = s.cycle := by cases u <;> rfl

theorem ckAccum_events (u : CkInst) : (ckAccum u s).events =
    s.events ++ if numBatches s.cfg u ≤ (s.ck u).cnt.toNat then [⟨.illegalState, ckUnit u, s.cycle⟩] else [] := by
  by_cases h : (s.ck u).cnt.toNat < numBatches s.cfg u
  · simp [ckAccum, h, Nat.not_le.2 h]
  · simp [ckAccum, ckFault, h, Nat.not_lt.1 h]

theorem performUnit_ck_events (u : CkInst) : (performUnit (.ck u) s).events = s.events ++ ckRaised s u := by
  rw [performUnit_ck, ckRaised]
  by_cases hr : ckResetIn s u
  · simp [hr, ckReset]
  by_cases ha : (ckCeIn s u && !ckDone s u) = true
  · rw [if_neg hr, if_pos ha, ckAccum_events]
    simp_all
  · rw [if_neg hr, if_neg ha]
    simp_all [ckHold]

theorem performUnit_fr_events : (performUnit .fr s).events = s.events ++ frRaised s := by
  rw [performUnit_fr, frRaised]
  by_cases hi : s.fr.state = F_IDLE
  · rw [if_pos hi, if_pos hi]
    split_ifs <;> simp_all [frLoad, frSkip, frIdleWait]
  by_cases hh : s.fr.state = F_HEADER
  · have hlast := frIllegal_of_last hh
    rw [if_neg hi, if_pos hh, if_neg hi]
    split_ifs <;> simp_all [frHdrLast, frHdr, frHdrStall, frFault]
  by_cases hp : s.fr.state = F_PAYLOAD
  · rw [if_neg hi, if_neg hh, if_pos hp, if_neg hi, frIllegal_of_payload hp]
    split_ifs <;> simp_all [frPayEop, frPay, frPayStall]
  · simp [frIllegal_of_unused hi hh hp, hi, hh, hp, frIllegalOp, frFault]

theorem performUnit_ex_events : (performUnit .ex s).events = s.events ++ exRaised s := by
  rw [performUnit_ex, exRaised]
  by_cases hi : s.ex.state = E_IDLE
  · rw [if_pos hi, if_pos hi]
    split_ifs <;> simp_all [exIdleRunt, exStart, exSkip, exIdleWait]
  by_cases hh : s.ex.state = E_HEADER
  · have hlast := exIllegal_of_last hh
    rw [if_neg hi, if_pos hh, if_neg hi]
    split_ifs <;> simp_all [exHdrRunt, exHdrLast, exHdr, exHdrWait, exFault]
  by_cases hp : s.ex.state = E_PAYLOAD
  · rw [if_neg hi, if_neg hh, if_pos hp, if_neg hi, exIllegal_of_payload hp]
    split_ifs <;> simp_all [exPayEop, exPay, exPayStall]
  · simp [exIllegal_of_unused hi hh hp, hi, hh, hp, exIllegalOp, exFault]

theorem performUnit_tx_events : (performUnit .tx s).events = s.events ++ txRaised s := by
  have hunused := four_lt_of_unused (c := s.tx.state)
  rw [performUnit_tx, txRaised]
  split_ifs <;>
    simp_all [T_IDLE, T_REQUEST, T_AWAIT, T_SEND, T_DROP, txStart, txIdleWait, txReqAccept, txReqWait, txUnresolved,
      txResolved, txAwaitWait, txSendEop, txSendBeat, txSendStall, txDropEop, txDropBeat, txDropWait, txIllegal, txFault]

theorem performUnit_rx_events : (performUnit .rx s).events = s.events ++ rxRaised s := by
  rw [performUnit_rx, rxRaised]
  split_ifs <;>
    simp_all [rxStart, rxIdleWait, rxAccept, rxReject, rxCheckWait, rxPresentEop, rxPresentBeat, rxPresentStall,
      rxDropEop, rxDropBeat, rxDropWait]

/-- The multiplexer records nothing. -/
theorem performUnit_arb_events : (performUnit .arb s).events = s.events := by
  rw [performUnit_arb]
  split_ifs <;> rfl

theorem performUnit_dmx_events : (performUnit .dmx s).events = s.events ++ dmxRaised s := by
  rw [performUnit_dmx, dmxRaised]
  split_ifs <;> simp_all [xbDmxDeliver, xbDmxStall, xbDmxDiscard, xbDmxIdle]

/-- The events of a running cycle are those its units record (60_exceptions.md R379). -/
theorem runCycle_events : (runCycle s).events =
    ckRaised s .tx ++ ckRaised s .rx ++ frRaised s ++ exRaised s ++ txRaised s ++ rxRaised s ++ dmxRaised s := by
  show (performUnit (.ck .tx) s.begin).events ++ (performUnit (.ck .rx) s.begin).events ++
    (performUnit .fr s.begin).events ++ (performUnit .ex s.begin).events ++ (performUnit .tx s.begin).events ++
    (performUnit .rx s.begin).events ++ (performUnit .arb s.begin).events ++ (performUnit .dmx s.begin).events = _
  rw [performUnit_ck_events, performUnit_ck_events, performUnit_fr_events, performUnit_ex_events,
    performUnit_tx_events, performUnit_rx_events, performUnit_arb_events, performUnit_dmx_events]
  simp only [begin_events, List.nil_append, List.append_nil]
  rfl

end Sys2Proof.Machine
end

section
/-! SUPPORT. What a finished or dropped packet leaves behind (10_state.md R42, 60_exceptions.md R381; log entry 18): two sound states that
differ in these values only form the same signals, record the same events, and again differ in such values only. Everything here is about
two states `s` and `s'` with `SameButUnread s s'`. -/

namespace Sys2Proof.Safety

open Sys2Proof.Machine

variable {s s' : State}

/-! The header `G` is complete while the receive pipeline is busy (70_reset_and_hazards.md R413 item 3). -/

/-- A sound extractor is in one of its three states. -/
theorem Sound.ex_cases (hs : Sound s) : s.ex.state = E_IDLE ∨ s.ex.state = E_HEADER ∨ s.ex.state = E_PAYLOAD := by
  by_contra! h
  obtain ⟨hi, hh, hp⟩ := h
  exact hs.inRange.exState (eq_unused_code hi hh hp)

/-- A busy receive pipeline has a whole header. -/
theorem Sound.payload_of_rx_busy (hs : Sound s) (hr : s.rx.state ≠ R_IDLE) : s.ex.state = E_PAYLOAD := by
  obtain h | h | h := hs.ex_cases
  · exact absurd (hs.coupled.exBuffering (.inl h)) hr
  · exact absurd (hs.coupled.exBuffering (.inr h)) hr
  · exact h

/-- A refused registration records that and nothing else. -/
theorem xbRegisterDup_events (s : State) : (xbRegisterDup s).events = [⟨.duplicateRegistration, .CFG, s.cycle⟩] := rfl

/-- A registration records no event. -/
theorem xbRegister_events (s : State) : (xbRegister s).events = [] := by
  unfold xbRegister
  split <;> rfl

namespace SameButUnread

variable (h : SameButUnread s s')

include h

/-! The signals of the transmit path. -/

theorem curIn_eq : s.curIn = s'.curIn := by
  simp only [State.curIn, h.inputs, h.cycle]

theorem utxAt_eq (k : Nat) : s.utxAt k = s'.utxAt k := by
  simp only [State.utxAt, h.cfg, h.curIn_eq]

theorem urxReadyAt_eq (k : Nat) : s.urxReadyAt k = s'.urxReadyAt k := by
  simp only [State.urxReadyAt, h.cfg, h.curIn_eq]

theorem ck_eq (u : CkInst) : s.ck u = s'.ck u := by
  cases u
  · exact h.ckTx
  · exact h.ckRx

theorem ckValue_eq (u : CkInst) : ckValue s u = ckValue s' u := by
  simp only [ckValue, h.ck_eq]

theorem ckDone_eq (u : CkInst) : ckDone s u = ckDone s' u := by
  simp only [ckDone, h.ck_eq, h.cfg]

theorem mo_eq : mo s = mo s' := by
  simp only [mo, h.arb, h.utxAt_eq]

/-- An idle framer presents nothing, and a busy one has the same registers in both states. -/
theorem frs_eq : frs s = frs s' := by
  by_cases hi : s.fr.state = F_IDLE
  · rw [frs_idle hi, frs_idle (h.frState ▸ hi)]
  · simp only [frs, headerByte, h.fr hi, h.mo_eq, h.ckValue_eq]

/-- `mac` is sent in `T_SEND` only. -/
theorem l2tx_eq : l2tx s = l2tx s' := by
  unfold l2tx
  rw [← h.txState, ← h.frs_eq, ← h.cfg]
  split_ifs with hs
  · rw [h.mac hs.1]
  · rfl

/-- `req_ip` is asked for in `T_REQUEST` only. -/
theorem arq_eq : arq s = arq s' := by
  unfold arq
  rw [← h.txState]
  split_ifs with hs
  · rw [h.reqIp hs]
  · rfl

theorem frsReady_eq : frsReady s = frsReady s' := by
  simp only [frsReady, h.txState, h.curIn_eq]

theorem moReady_eq : moReady s = moReady s' := by
  simp only [moReady, h.frState, h.mo_eq, h.frsReady_eq]

theorem txOut_eq : txOut s = txOut s' := by
  simp only [txOut, arsReady, unreachable, h.frsReady_eq, h.l2tx_eq, h.arq_eq, h.txState, h.curIn_eq]

theorem muxOut_eq : muxOut s = muxOut s' := by
  have hr (k : Nat) : utxReadyAt s k = utxReadyAt s' k := by simp only [utxReadyAt, h.arb, h.moReady_eq]
  simp only [muxOut, utxReady, funext hr, h.mo_eq, h.cfg]

/-! The signals of the receive path. -/

theorem exs_eq : exs s = exs s' := by
  simp only [exs, h.exState, h.exFirst, h.curIn_eq]

theorem exIllegal_eq : exIllegal s.ex = exIllegal s'.ex := by
  by_cases hh : s.ex.state = E_HEADER
  · simp only [exIllegal, h.exState, h.exCnt hh]
  · have hb : (s'.ex.state == E_HEADER) = false := by rw [← h.exState]; exact beq_eq_false_iff_ne.2 hh
    simp only [exIllegal, h.exState, hb, Bool.false_and]

/-- A busy receive pipeline reads the same header in both states. -/
theorem header_eq (hs : Sound s) (hr : s.rx.state ≠ R_IDLE) : s.ex.g = s'.ex.g :=
  h.exHeader (hs.payload_of_rx_busy hr)

theorem rxo_eq : rxo s = rxo s' := by
  unfold rxo
  rw [← h.rx, ← h.exs_eq]
  split_ifs with hv
  · rw [h.exHeader (exs_valid hv.2).1]
  · rfl

theorem matchProtocol_eq (hs : Sound s) : matchProtocol s = matchProtocol s' := by
  unfold matchProtocol
  rw [← h.rx]
  split_ifs with hp
  · rw [h.header_eq hs (by rw [hp]; decide)]
  · rfl

theorem matchedPort_eq (hs : Sound s) : matchedPort s = matchedPort s' := by
  simp only [matchedPort, h.cfg, h.matchProtocol_eq hs]

theorem rxoReady_eq (hs : Sound s) : rxoReady s = rxoReady s' := by
  simp only [rxoReady, h.matchedPort_eq hs, h.urxReadyAt_eq]

theorem exsReady_eq (hs : Sound s) : exsReady s = exsReady s' := by
  simp only [exsReady, h.rx, h.rxoReady_eq hs]

theorem exOut_eq (hs : Sound s) : exOut s = exOut s' := by
  simp only [exOut, l2rxReady, h.exIllegal_eq, h.exState, h.exsReady_eq hs, h.exs_eq]

theorem dmxOut_eq (hs : Sound s) : dmxOut s = dmxOut s' := by
  have hu (k : Nat) : urxAt s k = urxAt s' k := by simp only [urxAt, h.matchedPort_eq hs, h.rxo_eq]
  simp only [dmxOut, urx, funext hu, h.rxoReady_eq hs, h.cfg]

theorem hdrOk_eq (hs : Sound s) (hr : s.rx.state ≠ R_IDLE) : hdrOk s = hdrOk s' := by
  simp only [hdrOk, h.ckValue_eq, h.header_eq hs hr, h.cfg]

/-- The two states drive the same outputs. -/
theorem evaluate_eq (hs : Sound s) : evaluate s = evaluate s' := by
  simp only [evaluate, h.muxOut_eq, h.txOut_eq, h.exOut_eq hs, h.dmxOut_eq hs, frOut, h.moReady_eq, h.frs_eq, ckOut,
    h.ckValue_eq, h.ckDone_eq, rxOut, h.exsReady_eq hs, h.rxo_eq]

/-! The registers after a running cycle. -/

theorem ckResetIn_eq (u : CkInst) : ckResetIn s u = ckResetIn s' u := by
  cases u <;> simp only [ckResetIn, h.frState, h.rx]

theorem ckCeIn_eq (u : CkInst) : ckCeIn s u = ckCeIn s' u := by
  cases u <;> simp only [ckCeIn, h.frState, h.rx]

/-- An engine that is not being reset folds the same header in both states. -/
theorem ckHeader_eq (hs : Sound s) {u : CkInst} (hr : ckResetIn s u = false) : s.ckHeader u = s'.ckHeader u := by
  cases u with
  | tx => exact congrArg FrRegs.h (h.fr (by simpa [ckResetIn] using hr))
  | rx => exact h.header_eq hs (by simpa [ckResetIn] using hr)

theorem ckNext_eq (hs : Sound s) (u : CkInst) : ckNext s u = ckNext s' u := by
  unfold ckNext
  rw [← h.ckResetIn_eq, ← h.ckCeIn_eq, ← h.ckDone_eq, ← h.ck_eq, ← h.cfg]
  by_cases hr : ckResetIn s u = true
  · rw [if_pos hr, if_pos hr]
  · rw [h.ckHeader_eq hs (by simpa using hr)]

/-- An idle framer stays idle or loads every register, and a busy one computes from the same registers in both states. -/
theorem frNext_same : (frNext s).state = (frNext s').state ∧ ((frNext s).state ≠ F_IDLE → frNext s = frNext s') := by
  by_cases hi : s.fr.state = F_IDLE
  · have hi' : s'.fr.state = F_IDLE := h.frState ▸ hi
    unfold frNext
    rw [if_pos hi, if_pos hi', ← h.mo_eq, ← h.cfg]
    split_ifs
    · exact ⟨rfl, fun _ => rfl⟩
    · exact ⟨h.frState, fun hn => absurd hi hn⟩
  · have he : frNext s = frNext s' := by simp only [frNext, h.fr hi, h.mo_eq, h.frsReady_eq, h.cfg]
    exact ⟨he ▸ rfl, fun _ => he⟩

theorem rxNext_eq (hs : Sound s) : rxNext s = rxNext s' := by
  unfold rxNext
  rw [← h.rx, ← h.exs_eq, ← h.ckDone_eq, ← h.rxoReady_eq hs]
  by_cases hr : s.rx.state = R_IDLE
  · rw [if_pos hr, if_pos hr]
  · rw [h.hdrOk_eq hs hr]

theorem anyReq_eq : anyReq s = anyReq s' := by
  simp only [anyReq, h.utxAt_eq, h.cfg]

theorem nextGrant_eq (g : Nat) : nextGrant s g = nextGrant s' g := by
  simp only [nextGrant, h.utxAt_eq, h.cfg]

theorem arbNext_eq : arbNext s = arbNext s' := by
  unfold arbNext
  rw [← h.arb, ← h.mo_eq, ← h.moReady_eq, ← h.anyReq_eq, ← h.nextGrant_eq, ← h.cfg]

end SameButUnread

/-! The transmit pipeline's and the extractor's registers, which may differ in part. -/

/-- The clauses of `SameButUnread` about the transmit pipeline's registers. -/
structure SameTx (r r' : TxRegs) : Prop where
  state : r.state = r'.state
  reqIp : r.state = T_REQUEST → r.reqIp = r'.reqIp
  mac : r.state = T_SEND → r.mac = r'.mac

/-- In a state in which neither `req_ip` nor `mac` is read both may differ. -/
theorem SameTx.of_unread (r r' : TxRegs) {c : BitVec 3} (hq : c ≠ T_REQUEST) (hm : c ≠ T_SEND) :
    SameTx { r with state := c } { r' with state := c } :=
  ⟨rfl, fun h => absurd h hq, fun h => absurd h hm⟩

/-- Two headers agree on the bytes below offset `k`. -/
def StoredAgree (k : Nat) (g g' : Header) : Prop := ∀ (i : Nat) (h : i < 20), i < k → g[i] = g'[i]

/-- The clauses of `SameButUnread` about the extractor's registers. -/
structure SameEx (r r' : ExRegs) : Prop where
  state : r.state = r'.state
  first : r.first = r'.first
  cnt : r.state = E_HEADER → r.cnt = r'.cnt
  stored : r.state = E_HEADER → StoredAgree r.cnt.toNat r.g r'.g
  header : r.state = E_PAYLOAD → r.g = r'.g

/-- In `E_IDLE` the counter and the header may differ. -/
theorem SameEx.of_idle {r r' : ExRegs} (hr : r.state = E_IDLE) (hr' : r'.state = E_IDLE) (hf : r.first = r'.first) :
    SameEx r r' where
  state := hr.trans hr'.symm
  first := hf
  cnt := fun h => absurd (hr.symm.trans h) (show E_IDLE ≠ E_HEADER by decide)
  stored := fun h => absurd (hr.symm.trans h) (show E_IDLE ≠ E_HEADER by decide)
  header := fun h => absurd (hr.symm.trans h) (show E_IDLE ≠ E_PAYLOAD by decide)

/-- In `E_PAYLOAD` the counter may differ. -/
theorem SameEx.of_payload {r r' : ExRegs} (hr : r.state = E_PAYLOAD) (hr' : r'.state = E_PAYLOAD) (hf : r.first = r'.first)
    (hg : r.g = r'.g) : SameEx r r' where
  state := hr.trans hr'.symm
  first := hf
  cnt := fun h => absurd (hr.symm.trans h) (show E_PAYLOAD ≠ E_HEADER by decide)
  stored := fun h => absurd (hr.symm.trans h) (show E_PAYLOAD ≠ E_HEADER by decide)
  header := fun _ => hg

/-- In `E_HEADER` the bytes from the counter on may differ. -/
theorem SameEx.of_header {r r' : ExRegs} (hr : r.state = E_HEADER) (hr' : r'.state = E_HEADER) (hf : r.first = r'.first)
    (hc : r.cnt = r'.cnt) (hg : StoredAgree r.cnt.toNat r.g r'.g) : SameEx r r' where
  state := hr.trans hr'.symm
  first := hf
  cnt := fun _ => hc
  stored := fun _ => hg
  header := fun h => absurd (hr.symm.trans h) (show E_HEADER ≠ E_PAYLOAD by decide)

/-- Storing the byte at offset `k` in both headers makes them agree below `k + 1`. -/
theorem StoredAgree.putByte {k : Nat} {g g' : Header} (hg : StoredAgree k g g') (hk : k < 20) (v : Byte) :
    StoredAgree (k + 1) (putByte g k v hk) (putByte g' k v hk) := by
  intro i hi hik
  rw [putByte_getElem, putByte_getElem]
  split_ifs with he
  · rfl
  · exact hg i hi (by omega)

/-- Headers that agree on all twenty bytes are equal. -/
theorem StoredAgree.eq {g g' : Header} (hg : StoredAgree 20 g g') : g = g' :=
  Vector.ext fun i hi => hg i hi hi

/-- Storing a header byte that is not the last keeps the agreement on the stored bytes. -/
theorem StoredAgree.storeByte {c : BitVec 5} {g g' : Header} (hg : StoredAgree c.toNat g g') (hc : c.toNat < 20) (v : Byte) :
    StoredAgree (c + 1).toNat (storeByte g c v) (storeByte g' c v) := by
  have hn : (c + 1).toNat = c.toNat + 1 := by bv_omega
  simp only [Machine.storeByte, hc, dif_pos, hn]
  exact hg.putByte hc v

namespace SameButUnread

variable (h : SameButUnread s s')

include h

theorem sameTx : SameTx s.tx s'.tx := ⟨h.txState, h.reqIp, h.mac⟩

theorem sameEx : SameEx s.ex s'.ex := ⟨h.exState, h.exFirst, h.exCnt, h.exStored, h.exHeader⟩

/-- `TX_START` starts from a busy framer, so it latches the same address in both states. -/
theorem destination_eq (hv : ((frs s).valid && (frs s).sop && ckDone s .tx) = true) :
    be32 s.fr.h 16 = be32 s'.fr.h 16 := by
  simp only [Bool.and_eq_true] at hv
  obtain ⟨⟨-, hsop⟩, -⟩ := hv
  have hbusy : s.fr.state ≠ F_IDLE := by rw [(frs_sop hsop).1]; decide
  rw [h.fr hbusy]

/-- `req_ip` and `mac` are written when the state in which they are read is entered. -/
theorem txNext_same : SameTx (txNext s) (txNext s') := by
  have hkeep := h.sameTx
  have hidle := SameTx.of_unread s.tx s'.tx (c := T_IDLE) (by decide) (by decide)
  have hawait := SameTx.of_unread s.tx s'.tx (c := T_AWAIT) (by decide) (by decide)
  have hdrop := SameTx.of_unread s.tx s'.tx (c := T_DROP) (by decide) (by decide)
  unfold txNext
  rw [← h.txState, ← h.frs_eq, ← h.ckDone_eq, ← h.curIn_eq]
  split_ifs with _ hstart
  · exact ⟨rfl, fun _ => h.destination_eq hstart, fun c => absurd c (show T_REQUEST ≠ T_SEND by decide)⟩
  · exact hkeep
  · exact hawait
  · exact hkeep
  · exact hdrop
  · exact ⟨rfl, fun c => absurd c (show T_SEND ≠ T_REQUEST by decide), fun _ => rfl⟩
  · exact hkeep
  · exact hidle
  · exact hkeep
  · exact hidle
  · exact hkeep
  · exact hkeep

/-- In the header phase each stored byte makes the headers agree on one more byte, and the twentieth completes them. -/
theorem exNext_same (hs : Sound s) : SameEx (exNext s) (exNext s') := by
  have hkeep := h.sameEx
  unfold exNext
  rw [← h.exState, ← h.curIn_eq, ← h.exIllegal_eq, ← h.exsReady_eq hs]
  obtain hi | hh | hp := hs.ex_cases
  · rw [if_pos hi, if_pos hi]
    split_ifs
    · exact .of_header rfl rfl h.exFirst rfl
        (StoredAgree.putByte (k := 0) (fun i _ hi => absurd hi (Nat.not_lt_zero i)) (by decide) _)
    · exact hkeep
  · have hne : s.ex.state ≠ E_IDLE := by rw [hh]; decide
    have hstored : StoredAgree s.ex.cnt.toNat s.ex.g s'.ex.g := h.exStored hh
    have hcnt := (hs.inRange.exCnt hh).2
    rw [if_neg hne, if_pos hh, if_neg hne, if_pos hh, ← h.exCnt hh]
    split_ifs with hv hlast
    · simp only [Bool.and_eq_true, beq_iff_eq] at hlast
      rw [hlast.2] at hstored
      exact .of_payload rfl rfl rfl (hstored.putByte (by decide) _).eq
    · exact hkeep
    · exact .of_idle rfl rfl h.exFirst
    · exact .of_header hh (h.exState ▸ hh) h.exFirst rfl (hstored.storeByte (by omega) _)
    · exact hkeep
  · have hni : s.ex.state ≠ E_IDLE := by rw [hp]; decide
    have hnh : s.ex.state ≠ E_HEADER := by rw [hp]; decide
    rw [if_neg hni, if_neg hnh, if_pos hp, if_neg hni, if_neg hnh, if_pos hp]
    split_ifs
    · exact .of_idle rfl rfl rfl
    · exact .of_payload hp (h.exState ▸ hp) rfl (h.exHeader hp)
    · exact hkeep

/-! The events of a running cycle. -/

theorem ckRaised_eq (u : CkInst) : ckRaised s u = ckRaised s' u := by
  simp only [ckRaised, h.ckResetIn_eq, h.ckCeIn_eq, h.ckDone_eq, h.ck_eq, h.cfg, h.cycle]

theorem frRaised_eq : frRaised s = frRaised s' := by
  unfold frRaised
  rw [← h.frState, ← h.mo_eq, ← h.cycle]
  by_cases hi : s.fr.state = F_IDLE
  · rw [if_pos hi, if_pos hi]
  · rw [h.fr hi]

theorem exRaised_eq : exRaised s = exRaised s' := by
  simp only [exRaised, h.exState, h.curIn_eq, h.exIllegal_eq, h.cycle]

theorem txRaised_eq : txRaised s = txRaised s' := by
  simp only [txRaised, h.txState, h.curIn_eq, h.cycle]

theorem rejectCause_eq (hs : Sound s) (hr : s.rx.state ≠ R_IDLE) : rejectCause s = rejectCause s' := by
  simp only [rejectCause, h.ckValue_eq, h.header_eq hs hr]

theorem rxRaised_eq (hs : Sound s) : rxRaised s = rxRaised s' := by
  unfold rxRaised
  rw [← h.rx, ← h.ckDone_eq, ← h.cycle]
  by_cases hc : s.rx.state = R_CHECK
  · have hr : s.rx.state ≠ R_IDLE := by rw [hc]; decide
    rw [h.hdrOk_eq hs hr, h.rejectCause_eq hs hr]
  · rw [if_neg hc, if_neg hc]

theorem mOk_eq : mOk s = mOk s' := by
  simp only [mOk, beatPort, h.rxo_eq, h.cfg]

theorem dmxRaised_eq : dmxRaised s = dmxRaised s' := by
  simp only [dmxRaised, h.mOk_eq, h.rxo_eq, h.cycle]

theorem runCycle_events_eq (hs : Sound s) : (runCycle s).events = (runCycle s').events := by
  rw [runCycle_events, runCycle_events, h.ckRaised_eq, h.ckRaised_eq, h.frRaised_eq, h.exRaised_eq, h.txRaised_eq,
    h.rxRaised_eq hs, h.dmxRaised_eq]

/-! The step. -/

/-- After a running cycle the two states again differ in unread values only. -/
theorem runCycle_same (hs : Sound s) : SameButUnread (runCycle s) (runCycle s') := by
  have hfr := h.frNext_same
  have hex := h.exNext_same hs
  have htx := h.txNext_same
  rw [← runCycle_fr, ← runCycle_fr] at hfr
  rw [← runCycle_ex, ← runCycle_ex] at hex
  rw [← runCycle_tx, ← runCycle_tx] at htx
  obtain ⟨hfrState, hfrRegs⟩ := hfr
  exact {
    cfg := h.cfg
    pending := h.pending
    refused := h.refused
    inputs := congrArg List.tail h.inputs
    cycle := congrArg (· + 1) h.cycle
    ckTx := by rw [runCycle_ckTx, runCycle_ckTx, h.ckNext_eq hs]
    ckRx := by rw [runCycle_ckRx, runCycle_ckRx, h.ckNext_eq hs]
    frState := hfrState
    fr := hfrRegs
    exState := hex.state
    exFirst := hex.first
    exCnt := hex.cnt
    exStored := hex.stored
    exHeader := hex.header
    txState := htx.state
    reqIp := htx.reqIp
    mac := htx.mac
    rx := by rw [runCycle_rx, runCycle_rx, h.rxNext_eq hs]
    arb := by rw [runCycle_arb, runCycle_arb, h.arbNext_eq] }

/-- A reset cycle writes every register, so no unread value is left. -/
theorem resetCycle_same : SameButUnread (resetCycle s) (resetCycle s') where
  cfg := h.cfg
  pending := h.pending
  refused := h.refused
  inputs := congrArg List.tail h.inputs
  cycle := congrArg (· + 1) h.cycle
  ckTx := rfl
  ckRx := rfl
  frState := rfl
  fr := fun _ => rfl
  exState := rfl
  exFirst := rfl
  exCnt := fun _ => rfl
  exStored := fun _ _ _ _ => rfl
  exHeader := fun _ => rfl
  txState := rfl
  reqIp := fun _ => rfl
  mac := fun _ => rfl
  rx := rfl
  arb := by rw [resetCycle_arb, resetCycle_arb, h.cfg]

/-- A refused registration changes no register. -/
theorem xbRegisterDup_same : SameButUnread (xbRegisterDup s) (xbRegisterDup s') :=
  { h with refused := rfl }

/-- A registration writes the configuration and the width of the grant register. -/
theorem xbRegister_same : SameButUnread (xbRegister s) (xbRegister s') := by
  unfold xbRegister
  rw [← h.pending, ← h.cfg, ← h.arb]
  cases hp : s.pending with
  | nil => exact { h with }
  | cons p ps => exact { h with cfg := rfl, pending := rfl, arb := rfl }

theorem isDup_eq : isDup s = isDup s' := by
  simp only [isDup, h.pending, h.cfg]

end SameButUnread

/-- Settles O60: two states that differ in unread values only take the same kind of step, and each kind keeps that relation. -/
theorem leftoverValuesAreNotRead : Obligations.LeftoverValuesAreNotRead := by
  unfold Obligations.LeftoverValuesAreNotRead
  intro s s' t t' hs _ h hstep hstep'
  obtain ⟨-, c⟩ := step_cases hstep
  obtain ⟨-, c'⟩ := step_cases hstep'
  rw [← h.pending, ← h.isDup_eq, ← h.cfg, ← h.curIn_eq] at c'
  obtain ⟨hp, hd, e⟩ | ⟨hp, hd, e⟩ | ⟨hp, hl, hr, rfl⟩ | ⟨hp, hl, hr, rfl⟩ := c
  · have e' : exec .xbRegisterDup s' = .next t' := by simpa [hp, hd] using c'
    obtain rfl : xbRegisterDup s = t := Host.Outcome.next.inj e
    obtain rfl : xbRegisterDup s' = t' := Host.Outcome.next.inj e'
    exact ⟨h.xbRegisterDup_same, by rw [xbRegisterDup_events, xbRegisterDup_events, h.cycle], fun hn => absurd hn hp⟩
  · have e' : exec .xbRegister s' = .next t' := by simpa [hp, hd] using c'
    obtain rfl : xbRegister s = t := Host.Outcome.next.inj e
    obtain rfl : xbRegister s' = t' := Host.Outcome.next.inj e'
    exact ⟨h.xbRegister_same, by rw [xbRegister_events, xbRegister_events], fun hn => absurd hn hp⟩
  · obtain rfl : t' = resetCycle s' := by simpa [hp, hl, hr] using c'
    exact ⟨h.resetCycle_same, rfl, fun _ => ⟨by simp only [resetCycle_out, h.cfg], h.curIn_eq⟩⟩
  · obtain rfl : t' = runCycle s' := by simpa [hp, hl, hr] using c'
    exact ⟨h.runCycle_same hs, h.runCycle_events_eq hs, fun _ =>
      ⟨by rw [runCycle_out, runCycle_out, h.evaluate_eq hs], h.curIn_eq⟩⟩

end Sys2Proof.Safety
end

section
/-! SUPPORT. The round trip of select words, table by table (30_encoding.md R106 to R120). -/

namespace Sys2Proof

open Sys2Proof.Machine

/-! Unpacking a select word and packing its fields again gives the word (R106 to R111): each field is the next slice of it. -/

/-- Appending the next lower bit to a slice of a word gives the slice that is one bit longer. -/
theorem extractLsb'_append_ofBool {n : Nat} (w : BitVec n) (k m : Nat) :
    w.extractLsb' (k + 1) m ++ BitVec.ofBool (w.getLsbD k) = w.extractLsb' k (m + 1) := by
  refine BitVec.eq_of_getLsbD_eq fun i hi => ?_
  rw [BitVec.getLsbD_append]
  cases i with
  | zero => simp
  | succ i =>
    have hk : k + 1 + i = k + (i + 1) := by omega
    simp [hk]

/-- A bit of a word is a slice of length 1. -/
theorem ofBool_getLsbD {n : Nat} (w : BitVec n) (k : Nat) : BitVec.ofBool (w.getLsbD k) = w.extractLsb' k 1 := by
  ext i hi
  obtain rfl : i = 0 := by omega
  simp

/-- A one-bit word is its bit. -/
theorem ofBool_getLsbD_zero (w : BitVec 1) : BitVec.ofBool (w.getLsbD 0) = w := by
  rw [ofBool_getLsbD, BitVec.extractLsb'_eq_self]

theorem CkSel.pack_unpack (w : BitVec 3) : (CkSel.unpack w).pack = w := by
  simp only [pack, unpack, ofBool_getLsbD w 2, extractLsb'_append_ofBool w, BitVec.extractLsb'_eq_self]

theorem FrSel.pack_unpack (w : BitVec 7) : (FrSel.unpack w).pack = w := by
  simp only [pack, unpack, extractLsb'_append_ofBool w, BitVec.extractLsb'_eq_self]

theorem ExSel.pack_unpack (w : BitVec 7) : (ExSel.unpack w).pack = w := by
  simp only [pack, unpack, extractLsb'_append_ofBool w, BitVec.extractLsb'_eq_self]

theorem TxSel.pack_unpack (w : BitVec 11) : (TxSel.unpack w).pack = w := by
  simp only [pack, unpack, extractLsb'_append_ofBool w, BitVec.extractLsb'_eq_self]

theorem RxSel.pack_unpack (w : BitVec 8) : (RxSel.unpack w).pack = w := by
  simp only [pack, unpack, extractLsb'_append_ofBool w, BitVec.extractLsb'_eq_self]

theorem ArbSel.pack_unpack (w : BitVec 5) : (ArbSel.unpack w).pack = w := by
  simp only [pack, unpack, ofBool_getLsbD w 4, extractLsb'_append_ofBool w, BitVec.extractLsb'_eq_self]

theorem DmxSel.pack_unpack (w : BitVec 3) : (DmxSel.unpack w).pack = w := by
  simp only [pack, unpack, ofBool_getLsbD w 2, extractLsb'_append_ofBool w, BitVec.extractLsb'_eq_self]

/-! Encoding and then decoding (R114 to R120). The conditions of an operation's Operands line are the ones under which its table
selects it. -/

/-- Settles O1, one case per table: what the table selects is decided by the operation's Operands conditions. A wait or a stall is
selected when a conjunction fails, and `← Bool.not_and` reads its condition so. -/
theorem decodeInvertsEncode : Obligations.DecodeInvertsEncode := by
  unfold Obligations.DecodeInvertsEncode
  intro i h
  cases i <;> simp only [Instr.wellFormed, ← Bool.not_and, Bool.and_eq_true, Bool.or_eq_true, Bool.not_eq_true',
    beq_iff_eq] at h
  case ckAccum u => cases u <;> rfl
  case ckReset u g => simp [encode, decode_ck, h]
  case ckHold u g =>
    obtain ⟨hr, hc | hd⟩ := h
    · simp [encode, decode_ck, hr, hc]
    · simp [encode, decode_ck, hr, hd]
  case frLoad g | frSkip g | frIdleWait g | frHdrLast g | frHdr g | frHdrStall g | frPayEop g | frPay g | frPayStall g
  | frIllegal g => simp [encode, decode_fr, F_IDLE, F_HEADER, F_PAYLOAD, h]
  case exIdleRunt g | exStart g | exSkip g | exIdleWait g | exHdrRunt g | exHdrLast g | exHdr g | exHdrWait g
  | exPayEop g | exPay g | exPayStall g | exIllegal g => simp [encode, decode_ex, E_IDLE, E_HEADER, E_PAYLOAD, h]
  case txIllegal g =>
    obtain (hs | hs) | hs := h <;> simp [encode, decode_tx, T_IDLE, T_REQUEST, T_AWAIT, T_SEND, T_DROP, hs]
  case txStart g | txIdleWait g | txReqAccept g | txReqWait g | txUnresolved g | txResolved g | txAwaitWait g
  | txSendEop g | txSendBeat g | txSendStall g | txDropEop g | txDropBeat g | txDropWait g =>
    simp [encode, decode_tx, T_IDLE, T_REQUEST, T_AWAIT, T_SEND, T_DROP, h]
  case rxStart g | rxIdleWait g | rxAccept g | rxReject g | rxCheckWait g | rxPresentEop g | rxPresentBeat g
  | rxPresentStall g | rxDropEop g | rxDropBeat g | rxDropWait g =>
    simp [encode, decode_rx, R_IDLE, R_CHECK, R_PRESENT, R_DROP, h]
  case xbArbGrant g | xbArbIdle g | xbMuxEop g | xbMuxBeat g | xbMuxStall g => simp [encode, decode_arb, h]
  case xbDmxDiscard g | xbDmxIdle g => simp [encode, decode_dmx, h]
  case xbDmxDeliver | xbDmxStall | xbRegisterDup | xbRegister | reset | run => rfl

/-! Decoding and then encoding (R113). -/

/-- A select word is decoded, to a well-formed operation that encodes to it. -/
def RoundTrips (w : SelWord) : Prop := ∃ i, decode w = .ok i ∧ i.wellFormed = true ∧ encode i = w

theorem roundTrips_ck (u : CkInst) (g : CkSel) : RoundTrips (.ck u g.pack) := by
  refine ⟨_, decode_ck u g, ?_⟩
  obtain ⟨r, c, d⟩ := g
  cases r <;> cases c <;> cases d <;> exact ⟨rfl, rfl⟩

theorem roundTrips_fr (g : FrSel) : RoundTrips (.fr g.pack) := by
  refine ⟨_, decode_fr g, ?_⟩
  have hunused := eq_unused_code (c := g.state)
  split_ifs <;> simp_all [Instr.wellFormed, encode, or_iff_not_imp_left]

theorem roundTrips_ex (g : ExSel) : RoundTrips (.ex g.pack) := by
  refine ⟨_, decode_ex g, ?_⟩
  have hunused := eq_unused_code (c := g.state)
  split_ifs <;> simp_all [Instr.wellFormed, encode, or_iff_not_imp_left]

/-- The state codes above 4 are the three unused ones of the transmit pipeline (R105). -/
theorem eq_unused_tx_code : ∀ c : BitVec 3, 4 < c.toNat → c = 0b101#3 ∨ c = 0b110#3 ∨ c = 0b111#3 := by
  decide

theorem roundTrips_tx (g : TxSel) : RoundTrips (.tx g.pack) := by
  refine ⟨_, decode_tx g, ?_⟩
  have hunused := fun h0 h1 h2 h3 h4 => eq_unused_tx_code g.state (four_lt_of_unused h0 h1 h2 h3 h4)
  split_ifs <;> simp_all [Instr.wellFormed, encode, or_iff_not_imp_left]

theorem roundTrips_rx (g : RxSel) : RoundTrips (.rx g.pack) := by
  refine ⟨_, decode_rx g, ?_⟩
  have hdrop := eq_unused_code (c := g.state)
  split_ifs <;> simp_all [Instr.wellFormed, encode, or_iff_not_imp_left]

theorem roundTrips_arb (g : ArbSel) : RoundTrips (.arb g.pack) := by
  refine ⟨_, decode_arb g, ?_⟩
  split_ifs <;> simp_all [Instr.wellFormed, encode, or_iff_not_imp_left]

theorem roundTrips_dmx (g : DmxSel) : RoundTrips (.dmx g.pack) := by
  refine ⟨_, decode_dmx g, ?_⟩
  obtain ⟨v, o, r⟩ := g
  cases v <;> cases o <;> cases r <;> exact ⟨rfl, rfl⟩

/-- Settles O2, one lemma per table: every word is the packing of its own fields. -/
theorem everyWordIsOneOperation : Obligations.EveryWordIsOneOperation := by
  unfold Obligations.EveryWordIsOneOperation
  intro w
  cases w with
  | ck u w => exact CkSel.pack_unpack w ▸ roundTrips_ck u (.unpack w)
  | fr w => exact FrSel.pack_unpack w ▸ roundTrips_fr (.unpack w)
  | ex w => exact ExSel.pack_unpack w ▸ roundTrips_ex (.unpack w)
  | tx w => exact TxSel.pack_unpack w ▸ roundTrips_tx (.unpack w)
  | rx w => exact RxSel.pack_unpack w ▸ roundTrips_rx (.unpack w)
  | arb w => exact ArbSel.pack_unpack w ▸ roundTrips_arb (.unpack w)
  | dmx w => exact DmxSel.pack_unpack w ▸ roundTrips_dmx (.unpack w)
  | cfg w =>
    obtain ⟨b, rfl⟩ : ∃ b, BitVec.ofBool b = w := ⟨_, ofBool_getLsbD_zero w⟩
    exact ⟨_, decode_cfg b, by cases b <;> exact ⟨rfl, rfl⟩⟩
  | top w =>
    obtain ⟨b, rfl⟩ : ∃ b, BitVec.ofBool b = w := ⟨_, ofBool_getLsbD_zero w⟩
    exact ⟨_, decode_top b, by cases b <;> exact ⟨rfl, rfl⟩⟩

/-- Settles O3: the decoder read on nine closed words. -/
theorem specWordsDecode : Obligations.SpecWordsDecode := by
  unfold Obligations.SpecWordsDecode
  exact ⟨rfl, rfl, rfl, rfl, rfl, rfl, rfl, rfl, rfl⟩

end Sys2Proof
end

section
/-! SUPPORT. What a step runs (30_encoding.md R112), and what a counter outside its range does (R121; log entry 4). -/

namespace Sys2Proof.Machine

open Sys2Proof.Safety

variable {s : State}

/-! The step (60_exceptions.md R384, 70_reset_and_hazards.md R411). -/

/-- `CFGSEL` chooses a registration step (46_crossbar.md R300). -/
theorem selects_cfg (s : State) : Selects s .cfg (if isDup s then .xbRegisterDup else .xbRegister) := decode_cfg _

/-- `TOPSEL` chooses a whole clock cycle (30_encoding.md R112). -/
theorem selects_top (s : State) : Selects s .top (if s.curIn.rst then .reset else .run) := decode_top _

theorem fetchFrom_of_selects {t : Table} {i : Instr} (h : Selects s t i) : fetchFrom t s = .ok i := by
  unfold Selects at h
  rw [fetchFrom, h]

theorem step_of_fetch {i : Instr} (h : fetch s = .ok i) : step s = exec i s := by
  rw [step, h]

theorem step_of_fetch_error {f : Fault} (h : fetch s = .error f) : step s = .fault f := by
  rw [step, h]

theorem fetch_pending (hr : s.refused = false) (hp : s.pending ≠ []) : fetch s = fetchFrom .cfg s := by
  simp [fetch, hr, hp]

theorem fetch_traffic (hr : s.refused = false) (hp : s.pending = []) (hl : s.cfg.legal = true) :
    fetch s = fetchFrom .top s := by
  simp [fetch, hr, hp, hl]

theorem fetch_refused (hr : s.refused = true) : fetch s = .error .configurationRefused := by
  simp [fetch, hr]

theorem fetch_illegal (hr : s.refused = false) (hp : s.pending = []) (hl : s.cfg.legal = false) :
    fetch s = .error .illegalConfiguration := by
  simp [fetch, hr, hp, hl]

/-- Settles O4: one lemma on `fetch` per phase. -/
theorem stepRunsTheSelectedOperation : Obligations.StepRunsTheSelectedOperation := by
  unfold Obligations.StepRunsTheSelectedOperation
  intro s
  refine ⟨fun i hr hp h => ?_, fun i hr hp hl h => ?_, selects_cfg s, selects_top s,
    fun hr => step_of_fetch_error (fetch_refused hr), fun hr hp hl => step_of_fetch_error (fetch_illegal hr hp hl)⟩
  · exact step_of_fetch ((fetch_pending hr hp).trans (fetchFrom_of_selects h))
  · exact step_of_fetch ((fetch_traffic hr hp hl).trans (fetchFrom_of_selects h))

/-! What a table selects, by the conditions of its operations' Operands lines (41_checksum.md R137, 42_framer.md R166, R168,
43_extractor.md R196, R198, R199). -/

/-- An engine that is enabled and not done selects `CK_ACCUM`. -/
theorem selects_ckAccum {u : CkInst} (hr : ckResetIn s u = false) (hc : ckCeIn s u = true) (hd : ckDone s u = false) :
    Selects s (.ck u) (.ckAccum u) := by
  simp [Selects, selWord, decode_ck, ckSel, hr, hc, hd]

/-- Before header byte 19 the framer emits the byte or holds it. -/
theorem selects_fr_header (hs : s.fr.state = F_HEADER) (hi : s.fr.idx ≠ 19) :
    Selects s .fr (if frsReady s then .frHdr (frSel s) else .frHdrStall (frSel s)) := by
  have hstate : (frSel s).state = F_HEADER := hs
  have hlast : (frSel s).last = false := beq_false_of_ne hi
  have hready : (frSel s).frsReady = frsReady s := rfl
  simp [Selects, selWord, decode_fr, hstate, hlast, hready]

/-- Before header byte 19 the extractor ends the frame, stores the byte, or waits. -/
theorem selects_ex_header (hs : s.ex.state = E_HEADER) (hc : s.ex.cnt ≠ 19) :
    Selects s .ex
      (if s.curIn.l2rx.valid then if s.curIn.l2rx.eop then .exHdrRunt (exSel s) else .exHdr (exSel s)
        else .exHdrWait (exSel s)) := by
  have hstate : (exSel s).state = E_HEADER := hs
  have hlast : (exSel s).last = false := beq_false_of_ne hc
  have hvalid : (exSel s).l2rxValid = s.curIn.l2rx.valid := rfl
  have heop : (exSel s).l2rxEop = s.curIn.l2rx.eop := rfl
  simp [Selects, selWord, decode_ex, hstate, hlast, hvalid, heop]

/-! The checksum counter above `CK.N`. -/

/-- An engine whose counter is past its last batch is not done (41_checksum.md R134). -/
theorem ckDone_of_lt {u : CkInst} (h : numBatches s.cfg u < (s.ck u).cnt.toNat) : ckDone s u = false := by
  simp [ckDone, h.ne']

theorem ckAccum_of_lt {u : CkInst} (h : numBatches s.cfg u < (s.ck u).cnt.toNat) : ckAccum u s = ckFault u s := by
  rw [ckAccum, if_neg h.not_gt]

theorem ckOut_of_lt {u : CkInst} (h : numBatches s.cfg u < (s.ck u).cnt.toNat) :
    ckOut s u = { value := ~~~ (s.ck u).acc, done := false } := by
  rw [ckOut, ckDone_of_lt h, ckValue]

/-! The framer's index at 20 or above. -/

theorem frIllegal_of_idx {r : FrRegs} (hs : r.state = F_HEADER) (hi : 20 ≤ r.idx.toNat) : frIllegal r = true := by
  simp [frIllegal, hs, hi]

/-- No header byte has such an index, so the framer drives nothing. -/
theorem frOut_of_idx (hs : s.fr.state = F_HEADER) (hi : 20 ≤ s.fr.idx.toNat) : frOut s = {} := by
  simp [frOut, moReady, frs, F_HEADER, F_PAYLOAD, hs, hi]

/-- A faulted framer that drives nothing. -/
theorem frFault_of_frOut (h : frOut s = {}) : frFault s =
    { s with out := { s.out with fr := {} }, events := s.events ++ [⟨.illegalState, .FR, s.cycle⟩] } := by
  rw [← h]; rfl

/-- Both header operations find the index illegal. -/
theorem exec_frHdr_illegal {i : Instr} {g : FrSel} (h : frIllegal s.fr = true) (hi : i = .frHdr g ∨ i = .frHdrStall g) :
    exec i s = .next (frFault s) := by
  obtain rfl | rfl := hi
  · simp only [exec, execFrHdr, frHdr, if_pos h]
  · simp only [exec, execFrHdrStall, frHdrStall, if_pos h]

/-! The extractor's counter at 0, or at 20 or above. -/

theorem exIllegal_of_cnt {r : ExRegs} (hs : r.state = E_HEADER) (hc : r.cnt.toNat = 0 ∨ 20 ≤ r.cnt.toNat) :
    exIllegal r = true := by
  obtain h0 | h20 := hc
  · have hz : r.cnt = 0 := BitVec.eq_of_toNat_eq h0
    simp [exIllegal, hs, hz]
  · simp [exIllegal, hs, h20]

/-- With illegal registers in `E_HEADER` the extractor drives nothing. -/
theorem exOut_of_illegal (hs : s.ex.state = E_HEADER) (h : exIllegal s.ex = true) : exOut s = {} := by
  simp [exOut, l2rxReady, exs, E_HEADER, E_PAYLOAD, hs, h]

/-- A faulted extractor that drives nothing. -/
theorem exFault_of_exOut (h : exOut s = {}) : exFault s =
    { s with out := { s.out with ex := {} }, events := s.events ++ [⟨.illegalState, .EX, s.cycle⟩] } := by
  rw [← h]; rfl

/-- All three header operations find the counter illegal. -/
theorem exec_exHdr_illegal {i : Instr} {g : ExSel} (h : exIllegal s.ex = true)
    (hi : i = .exHdrRunt g ∨ i = .exHdr g ∨ i = .exHdrWait g) : exec i s = .next (exFault s) := by
  obtain rfl | rfl | rfl := hi
  · simp only [exec, execExHdrRunt, exHdrRunt, if_pos h]
  · simp only [exec, execExHdr, exHdr, if_pos h]
  · simp only [exec, execExHdrWait, exHdrWait, if_pos h]

/-- Settles O15, one part per counter: its unit's table still selects a counting operation, and that operation faults. -/
theorem countersOutOfRangeHold : Obligations.CountersOutOfRangeHold := by
  unfold Obligations.CountersOutOfRangeHold
  refine fun s => ⟨fun hs h => ⟨?_, ?_⟩, fun hs h => ⟨?_, ?_⟩, fun hs h => ⟨?_, fun i g hi => ?_⟩,
    fun hs h => ⟨?_, fun i g hi => ?_⟩⟩
  · exact selects_ckAccum (u := .tx) (by simpa [ckResetIn] using hs) (by simpa [ckCeIn] using hs) (ckDone_of_lt h)
  · show Host.Outcome.next (ckAccum .tx s) = _
    rw [ckAccum_of_lt h, ckFault, State.commitCk, ckOut_of_lt h]
    rfl
  · exact selects_ckAccum (u := .rx) (by simp [ckResetIn, hs]) (by simp [ckCeIn, hs]) (ckDone_of_lt h)
  · show Host.Outcome.next (ckAccum .rx s) = _
    rw [ckAccum_of_lt h, ckFault, State.commitCk, ckOut_of_lt h]
    rfl
  · exact selects_fr_header hs fun e => by rw [e] at h; exact absurd h (by decide)
  · rw [exec_frHdr_illegal (frIllegal_of_idx hs h) hi, frFault_of_frOut (frOut_of_idx hs h)]
  · exact selects_ex_header hs fun e => by rw [e] at h; exact absurd h (by decide)
  · have hill := exIllegal_of_cnt hs h
    rw [exec_exHdr_illegal hill hi, exFault_of_exOut (exOut_of_illegal hs hill)]

end Sys2Proof.Machine
end

section
/-! SUPPORT. One's-complement sums as numbers (41_checksum.md R130, R131): the closed form of a fold, the integer sum of a header's words
(R132), what replacing a word (R141, R142) and what flipping a bit (R143) does to it. -/

namespace Sys2Proof.Machine

open Sys2Proof.Safety

/-! The closed form of a fold (R130, R131). -/

/-- The one's-complement sum of words whose integer sum is `n`: 0 only for `n = 0`, else the representative of `n` modulo 0xFFFF
between 1 and 0xFFFF (R131). -/
def onesSum (n : Nat) : Nat := if n = 0 then 0 else (n - 1) % 0xFFFF + 1

theorem onesSum_of_lt {n : Nat} (h : n < 2 ^ 16) : onesSum n = n := by
  unfold onesSum
  split <;> omega

/-- A partial sum may be folded before the rest is added. -/
theorem onesSum_onesSum_add (m n : Nat) : onesSum (onesSum m + n) = onesSum (m + n) := by
  by_cases hm : m = 0
  · simp [onesSum, hm]
  · have hpos : m + n ≠ 0 := by omega
    simp only [onesSum, if_neg hm, if_neg hpos]
    rw [if_neg (by omega)]
    omega

/-- The one's-complement sum is 0xFFFF exactly for the positive multiples of 0xFFFF. -/
theorem onesSum_eq_max_iff (n : Nat) : onesSum n = 0xFFFF ↔ 0 < n ∧ n % 0xFFFF = 0 := by
  unfold onesSum
  split <;> omega

/-- `FOLDADD` is the one's-complement sum of two words. -/
theorem foldAdd_toNat_eq_onesSum (a b : Half) : (foldAdd a b).toNat = onesSum (a.toNat + b.toNat) := by
  have ha := a.isLt
  have hb := b.isLt
  rw [foldAdd_toNat]
  unfold onesSum
  split_ifs <;> omega

/-- Folding words into a running value gives the one's-complement sum of all of them. -/
theorem foldFrom_toNat (a : Half) (ws : List Half) :
    (foldFrom a ws).toNat = onesSum (a.toNat + (ws.map BitVec.toNat).sum) := by
  induction ws generalizing a with
  | nil => simp [foldFrom, onesSum_of_lt a.isLt]
  | cons w ws ih =>
    calc (foldFrom a (w :: ws)).toNat = (foldFrom (foldAdd a w) ws).toNat := rfl
      _ = onesSum (onesSum (a.toNat + w.toNat) + (ws.map BitVec.toNat).sum) := by rw [ih, foldAdd_toNat_eq_onesSum]
      _ = onesSum (a.toNat + ((w :: ws).map BitVec.toNat).sum) := by
        rw [onesSum_onesSum_add, List.map_cons, List.sum_cons, Nat.add_assoc]

theorem half_zero_toNat : (0x0000 : Half).toNat = 0 := rfl

theorem foldSum_toNat (ws : List Half) : (foldSum ws).toNat = onesSum (ws.map BitVec.toNat).sum := by
  rw [foldSum, foldFrom_toNat, half_zero_toNat, Nat.zero_add]

/-- `FOLDSUM` depends on the integer sum of the words only. -/
theorem foldSum_congr {ws vs : List Half} (h : (ws.map BitVec.toNat).sum = (vs.map BitVec.toNat).sum) :
    foldSum ws = foldSum vs := by
  apply BitVec.eq_of_toNat_eq
  rw [foldSum_toNat, foldSum_toNat, h]

/-- A fold from a running value is one `FOLDADD` of that value and the words' own `FOLDSUM`. -/
theorem foldFrom_eq_foldAdd (a : Half) (ws : List Half) : foldFrom a ws = foldAdd a (foldSum ws) := by
  apply BitVec.eq_of_toNat_eq
  rw [foldFrom_toNat, foldAdd_toNat_eq_onesSum, foldSum_toNat, Nat.add_comm, ← onesSum_onesSum_add, Nat.add_comm]

/-- Settles O7: `foldAdd_toNat` says by cases what the quotient and the remainder say at once. -/
theorem foldAddBringsTheCarryBack : Obligations.FoldAddBringsTheCarryBack := by
  unfold Obligations.FoldAddBringsTheCarryBack
  refine ⟨fun a b => ⟨?_, rfl⟩, by decide⟩
  have ha := a.isLt
  have hb := b.isLt
  rw [foldAdd_toNat]
  split <;> omega

/-! The integer sum of a header's words (R131, R132). -/

/-- `S`, the integer sum of the words of an engine's word list. -/
def headerSum (u : CkInst) (X : Header) : Nat := ((wordList u).map fun j => (headerWord X j).toNat).sum

theorem sum_map_headerWord (u : CkInst) (X : Header) :
    (((wordList u).map (headerWord X)).map BitVec.toNat).sum = headerSum u X := by
  rw [List.map_map]
  rfl

theorem foldSum_header_toNat (u : CkInst) (X : Header) :
    (foldSum ((wordList u).map (headerWord X))).toNat = onesSum (headerSum u X) := by
  rw [foldSum_toNat, sum_map_headerWord]

/-- A header verifies exactly when its integer sum is a positive multiple of 0xFFFF. -/
theorem cksum_eq_zero_iff (X : Header) (u : CkInst) :
    cksum X u = 0x0000 ↔ 0 < headerSum u X ∧ headerSum u X % 0xFFFF = 0 := by
  have hlt := (foldSum ((wordList u).map (headerWord X))).isLt
  rw [← onesSum_eq_max_iff, ← foldSum_header_toNat, ← BitVec.toNat_inj, cksum, BitVec.toNat_not, half_zero_toNat]
  omega

/-- Settles O8: each clause reads `foldFrom_toNat`, in which only the integer sum of the words stands. -/
theorem foldSumClosedForm : Obligations.FoldSumClosedForm := by
  unfold Obligations.FoldSumClosedForm
  refine ⟨fun ws => ⟨rfl, fun h => ?_, fun h => ?_⟩, fun ws vs h => foldSum_congr (h.map _).sum_nat, fun ws vs => ?_,
    fun _ _ => rfl, fun X => cksum_eq_zero_iff X .rx⟩
  · exact foldSum_congr (vs := []) h
  · rw [foldSum_toNat, onesSum, if_neg h]
  · rw [foldSum, foldFrom_append, foldFrom_eq_foldAdd]
    rfl

/-- The integer sum of all ten words, with one of them taken out. -/
theorem headerSum_rx_eq_add_erase (X : Header) (j : Fin 10) :
    headerSum .rx X = (headerWord X j).toNat + (((wordList .rx).erase j).map fun k => (headerWord X k).toNat).sum := by
  have hmem : j ∈ wordList .rx := by revert j; decide
  exact ((List.perm_cons_erase hmem).map _).sum_nat

/-- The list of `CK_TX` is the list of `CK_RX` without word 5. -/
theorem headerSum_rx_eq_add_tx (X : Header) : headerSum .rx X = (headerWord X 5).toNat + headerSum .tx X :=
  headerSum_rx_eq_add_erase X 5

/-! Writing bytes of one header word (R141, R142). -/

/-- Writing a byte leaves the words alone that do not hold it. -/
theorem headerWord_set_of_ne (X : Header) {i : Nat} (hi : i < 20) (v : Byte) {j : Fin 10} (h : i / 2 ≠ j.val) :
    headerWord (X.set i v) j = headerWord X j := by
  unfold headerWord be16
  rw [Vector.getElem_set_ne _ _ (by omega), Vector.getElem_set_ne _ _ (by omega)]

theorem headerWord_put16_checksum (X : Header) (v : Half) : headerWord (put16 X 10 v) 5 = v := be16_put16 X 10 v _

/-- Writing bytes 10 and 11 changes word 5 only, which `CK_TX` skips. -/
theorem map_headerWord_put16_checksum (X : Header) (v : Half) :
    (wordList .tx).map (headerWord (put16 X 10 v)) = (wordList .tx).map (headerWord X) := by
  refine List.map_congr_left fun j hj => ?_
  have hne : j.val ≠ 5 := by revert j; decide
  rw [put16, headerWord_set_of_ne _ _ _ (by omega), headerWord_set_of_ne _ _ _ (by omega)]

theorem headerSum_tx_put16_checksum (X : Header) (v : Half) : headerSum .tx (put16 X 10 v) = headerSum .tx X := by
  rw [← sum_map_headerWord, map_headerWord_put16_checksum, sum_map_headerWord]

theorem headerSum_rx_put16_checksum (X : Header) (v : Half) :
    headerSum .rx (put16 X 10 v) = v.toNat + headerSum .tx X := by
  rw [headerSum_rx_eq_add_tx, headerWord_put16_checksum, headerSum_tx_put16_checksum]

/-- The packing function writes neither byte 10 nor byte 11 (42_framer.md R160). -/
theorem be16_assemble_checksum (c : Config) (dst : Ip) (p : Byte) (len : Half) :
    be16 (assemble c dst p len) 10 = 0x0000 := by
  simp [be16, assemble, put32_getElem, put16_getElem, putByte_getElem, Header.zero]

/-- Settles O11: word 5 adds 0 to the integer sum, and the list of `CK_TX` does not hold it. -/
theorem skippingAWordIsZeroingIt : Obligations.SkippingAWordIsZeroingIt := by
  unfold Obligations.SkippingAWordIsZeroingIt
  refine ⟨fun X => foldSum_congr ?_, fun X v => ?_, be16_assemble_checksum⟩
  · rw [sum_map_headerWord, sum_map_headerWord, headerSum_rx_put16_checksum, half_zero_toNat, Nat.zero_add]
  · rw [cksum, cksum, map_headerWord_put16_checksum]

/-- Inserting the transmit checksum fills the integer sum up to a positive multiple of 0xFFFF. -/
theorem cksum_insert_checksum (X : Header) : cksum (put16 X 10 (cksum X .tx)) .rx = 0x0000 := by
  rw [cksum_eq_zero_iff, headerSum_rx_put16_checksum, cksum, BitVec.toNat_not, foldSum_header_toNat]
  unfold onesSum
  split <;> omega

/-! Flipping one bit (R143). -/

/-- Two numbers are a power of two below `2 ^ w` apart, as two words of `w` bits are when one bit differs. -/
def OneBitApart (w m n : Nat) : Prop := ∃ k < w, m + 2 ^ k = n ∨ n + 2 ^ k = m

/-- Setting a bit that is 0 adds its weight. -/
theorem toNat_xor_twoPow_of_clear {w k : Nat} (hk : k < w) {v : BitVec w} (h : v.getLsbD k = false) :
    (v ^^^ BitVec.twoPow w k).toNat = v.toNat + 2 ^ k := by
  have hand : v &&& BitVec.twoPow w k = 0#w := by simp [BitVec.and_twoPow, h]
  have hxor : v ^^^ BitVec.twoPow w k = v + BitVec.twoPow w k := by
    rw [BitVec.add_eq_or_of_and_eq_zero _ _ hand]
    ext i hi
    by_cases hik : i = k <;> simp_all
  rw [hxor, BitVec.toNat_add_of_and_eq_zero hand, BitVec.toNat_twoPow_of_lt hk]

theorem oneBitApart_xor_twoPow {w k : Nat} (hk : k < w) (v : BitVec w) :
    OneBitApart w (v ^^^ BitVec.twoPow w k).toNat v.toNat := by
  refine ⟨k, hk, ?_⟩
  cases hb : v.getLsbD k with
  | false => exact .inr (toNat_xor_twoPow_of_clear hk hb).symm
  | true =>
    have hclear : (v ^^^ BitVec.twoPow w k).getLsbD k = false := by simp [hb, hk]
    have h := toNat_xor_twoPow_of_clear hk hclear
    rw [BitVec.xor_assoc, BitVec.xor_self, BitVec.xor_zero] at h
    exact .inl h.symm

/-- `X''` of R143: the header with bit `b` of byte `i` flipped. -/
def flipBit (X : Header) (i : Fin 20) (b : Fin 8) : Header := X.set i (X[i] ^^^ (1#8 <<< b.val))

theorem oneBitApart_byte_flip (v : Byte) (b : Fin 8) : OneBitApart 8 (v ^^^ (1#8 <<< b.val)).toNat v.toNat :=
  oneBitApart_xor_twoPow b.isLt v

theorem OneBitApart.add_right {w m n : Nat} (h : OneBitApart w m n) (c : Nat) : OneBitApart w (m + c) (n + c) := by
  obtain ⟨k, hk, h⟩ := h
  exact ⟨k, hk, by omega⟩

/-- The weight of a bit within a word of 16 bits is no multiple of 0xFFFF. -/
theorem OneBitApart.mod_ne {m n : Nat} (h : OneBitApart 16 m n) (hn : n % 0xFFFF = 0) : m % 0xFFFF ≠ 0 := by
  obtain ⟨k, hk, h⟩ := h
  have hlow : 0 < 2 ^ k := Nat.two_pow_pos k
  have hhigh : 2 ^ k ≤ 2 ^ 15 := Nat.pow_le_pow_right (by decide) (by omega)
  omega

/-- The bit flipped in a byte of a word is a bit flipped in the word: the byte is its high or its low one. -/
theorem oneBitApart_headerWord_flipBit (X : Header) (i : Fin 20) (b : Fin 8) :
    OneBitApart 16 (headerWord (flipBit X i b) ⟨i.val / 2, by omega⟩).toNat (headerWord X ⟨i.val / 2, by omega⟩).toNat := by
  obtain ⟨k, hk, h⟩ := oneBitApart_byte_flip X[i] b
  rw [headerWord, headerWord, be16_toNat, be16_toNat, flipBit]
  simp only [Vector.getElem_set]
  obtain he | ho : i.val = 2 * (i.val / 2) ∨ i.val = 2 * (i.val / 2) + 1 := by omega
  · refine ⟨k + 8, by omega, ?_⟩
    rw [if_pos he, if_neg (by omega), Nat.pow_add]
    simp only [← he, Fin.getElem_fin] at h ⊢
    omega
  · refine ⟨k, by omega, ?_⟩
    rw [if_pos ho, if_neg (by omega)]
    simp only [← ho, Fin.getElem_fin] at h ⊢
    omega

/-- A flipped bit changes one word of the sum. -/
theorem oneBitApart_headerSum_flipBit (X : Header) (i : Fin 20) (b : Fin 8) :
    OneBitApart 16 (headerSum .rx (flipBit X i b)) (headerSum .rx X) := by
  have hrest : ((wordList .rx).erase ⟨i.val / 2, by omega⟩).map (fun k => (headerWord (flipBit X i b) k).toNat) =
      ((wordList .rx).erase ⟨i.val / 2, by omega⟩).map (fun k => (headerWord X k).toNat) := by
    refine List.map_congr_left fun k hk => ?_
    have hnd : (wordList .rx).Nodup := by decide
    have hne := (hnd.mem_erase_iff.1 hk).1
    rw [flipBit, headerWord_set_of_ne _ _ _ fun h => hne (Fin.ext h.symm)]
  rw [headerSum_rx_eq_add_erase _ ⟨i.val / 2, by omega⟩, headerSum_rx_eq_add_erase X ⟨i.val / 2, by omega⟩, hrest]
  exact (oneBitApart_headerWord_flipBit X i b).add_right _

/-- With one bit flipped a verifying header does not verify. -/
theorem cksum_flipBit_ne_zero {X : Header} (h : cksum X .rx = 0x0000) (i : Fin 20) (b : Fin 8) :
    cksum (flipBit X i b) .rx ≠ 0x0000 := by
  rw [Ne, cksum_eq_zero_iff]
  rw [cksum_eq_zero_iff] at h
  exact fun h' => (oneBitApart_headerSum_flipBit X i b).mod_ne h.2 h'.2

/-- A header whose checksum does not verify is rejected at the end of its check (45_rx_pipeline.md R260, R265). -/
theorem selects_rxReject {s : State} (hs : s.rx.state = R_CHECK) (hd : ckDone s .rx = true) (hv : ckValue s .rx ≠ 0x0000) :
    Selects s .rx (.rxReject (rxSel s)) := by
  have hstate : (rxSel s).state = R_CHECK := hs
  have hdone : (rxSel s).ckDone = true := hd
  have hok : (rxSel s).hdrOk = false := by
    show hdrOk s = false
    rw [hdrOk, beq_false_of_ne hv]
    rfl
  simp [Selects, selWord, decode_rx, hstate, hdone, hok]

/-- Settles O13: the flipped bit moves the integer sum off the multiples of 0xFFFF, so `hdr_ok` is 0. -/
theorem singleBitErrorIsDetected : Obligations.SingleBitErrorIsDetected := by
  unfold Obligations.SingleBitErrorIsDetected
  intro X i b h
  have hflip := cksum_flipBit_ne_zero h i b
  refine ⟨hflip, fun s hs hd hg hacc => selects_rxReject hs hd ?_⟩
  have hvalue : ckValue s .rx = cksum s.ex.g .rx := congrArg (~~~ ·) hacc
  rw [hvalue, hg]
  exact hflip

end Sys2Proof.Machine
end

section
/-! SUPPORT. The checksum engines: how the batches cut a word list (41_checksum.md R132, R133), when each engine clears, folds or holds
(R136 to R140), the stability of the header it reads (R145) and the invariant of its accumulator (R144). -/

namespace Sys2Proof.Machine

open Sys2Proof.Safety

/-! The batches (R133). -/

theorem numBatches_eq_ceilDiv (c : Config) (u : CkInst) : numBatches c u = (wordList u).length ⌈/⌉ c.wpc := rfl

/-- A batch index is below `N` exactly when its first word is in the list. -/
theorem lt_numBatches_iff {c : Config} (hw : 1 ≤ c.wpc) {u : CkInst} {k : Nat} :
    k < numBatches c u ↔ k * c.wpc < (wordList u).length := by
  rw [numBatches_eq_ceilDiv, ← not_le, ceilDiv_le_iff_le_mul hw, not_le, Nat.mul_comm]

theorem length_le_numBatches_mul {c : Config} (hw : 1 ≤ c.wpc) (u : CkInst) :
    (wordList u).length ≤ numBatches c u * c.wpc :=
  not_lt.1 fun h => lt_irrefl _ ((lt_numBatches_iff hw).2 h)

theorem numBatches_pos {c : Config} (hw : 1 ≤ c.wpc) (u : CkInst) : 0 < numBatches c u :=
  (lt_numBatches_iff hw).2 (by rw [Nat.zero_mul]; cases u <;> decide)

/-- Batch `k` is the slice of the word list from `k*WPC` to `min((k+1)*WPC, |L|)`. -/
theorem batch_eq_slice (c : Config) (u : CkInst) (k : Nat) :
    batch c u k = ((wordList u).take (min ((k + 1) * c.wpc) (wordList u).length)).drop (k * c.wpc) := by
  rw [← List.take_eq_take_min, List.drop_take, Nat.succ_mul, Nat.add_sub_cancel_left, batch]

/-- The first `n` batches are the words counted by `n`. -/
theorem flatMap_batch (c : Config) (u : CkInst) (n : Nat) :
    (List.range n).flatMap (batch c u) = foldedWords c u n := by
  induction n with
  | zero => simp [foldedWords]
  | succ n ih =>
    rw [List.range_succ, List.flatMap_append, ih, foldedWords, foldedWords, take_batch, List.flatMap_singleton]

/-- After all batches the whole list is counted. -/
theorem foldedWords_numBatches {c : Config} (hw : 1 ≤ c.wpc) (u : CkInst) :
    foldedWords c u (numBatches c u) = wordList u :=
  List.take_of_length_le (length_le_numBatches_mul hw u)

/-- Settles O9: the table is computed for each `WPC`, the cut is shown for every one. -/
theorem batchesCutTheWordList : Obligations.BatchesCutTheWordList := by
  unfold Obligations.BatchesCutTheWordList
  refine ⟨rfl, rfl, fun c hw hw' => ⟨?_, ?_, fun u => ⟨length_le_numBatches_mul hw u, ?_, fun k _ => batch_eq_slice c u k, ?_⟩⟩⟩
  · unfold numBatches
    interval_cases c.wpc <;> rfl
  · unfold numBatches
    interval_cases c.wpc <;> rfl
  · exact (lt_numBatches_iff hw).1 (Nat.sub_lt (numBatches_pos hw u) one_pos)
  · rw [flatMap_batch, foldedWords_numBatches hw]

/-! When an engine clears, folds or holds (R136 to R140). -/

section

variable {s : State} {u : CkInst}

/-- An engine is reset in exactly the cycles in which its pipeline is idle. -/
theorem ckResetIn_tx_eq_true : ckResetIn s .tx = true ↔ s.fr.state = F_IDLE := beq_iff_eq

theorem ckResetIn_rx_eq_true : ckResetIn s .rx = true ↔ s.rx.state = R_IDLE := beq_iff_eq

theorem ckResetIn_tx_eq_false : ckResetIn s .tx = false ↔ s.fr.state ≠ F_IDLE := beq_eq_false_iff_ne

theorem ckResetIn_rx_eq_false : ckResetIn s .rx = false ↔ s.rx.state ≠ R_IDLE := beq_eq_false_iff_ne

theorem ckDone_eq_true : ckDone s u = true ↔ (s.ck u).cnt.toNat = numBatches s.cfg u := beq_iff_eq

theorem selects_ckReset (hr : ckResetIn s u = true) : Selects s (.ck u) (.ckReset u (ckSel s u)) := by
  have hreset : (ckSel s u).reset = true := hr
  simp [Selects, selWord, decode_ck, hreset]

/-- An engine that is not reset holds when it is not enabled or when it is done. -/
theorem selects_ckHold (hr : ckResetIn s u = false) (h : ckCeIn s u = false ∨ ckDone s u = true) :
    Selects s (.ck u) (.ckHold u (ckSel s u)) := by
  have hreset : (ckSel s u).reset = false := hr
  have hkeep : ((ckSel s u).ce && !(ckSel s u).done) = false := by
    obtain hc | hd := h
    · simp [ckSel, hc]
    · simp [ckSel, hd]
  simp [Selects, selWord, decode_ck, hreset, hkeep]

theorem ckOut_of_done (h : ckDone s u = true) : ckOut s u = { value := ~~~ (s.ck u).acc, done := true } := by
  rw [ckOut, h, ckValue]

/-- Before its last batch an engine is not done. -/
theorem ckDone_of_cnt_lt (h : (s.ck u).cnt.toNat < numBatches s.cfg u) : ckDone s u = false :=
  beq_eq_false_iff_ne.2 h.ne

/-- Before its last batch an engine folds the next one and counts it. -/
theorem ckAccum_of_cnt_lt (h : (s.ck u).cnt.toNat < numBatches s.cfg u) : ckAccum u s =
    s.commitCk u
      { acc := foldFrom (s.ck u).acc ((batch s.cfg u (s.ck u).cnt.toNat).map (headerWord (s.ckHeader u))),
        cnt := (s.ck u).cnt + 1 } := by
  rw [ckAccum, if_pos h]

theorem ckOut_of_cnt_lt (h : (s.ck u).cnt.toNat < numBatches s.cfg u) :
    ckOut s u = { value := ~~~ (s.ck u).acc, done := false } := by
  rw [ckOut, ckDone_of_cnt_lt h, ckValue]

end

/-- Settles O5, one part per engine and operation. -/
theorem checksumClearsAndHolds : Obligations.ChecksumClearsAndHolds := by
  unfold Obligations.ChecksumClearsAndHolds
  refine fun s => ⟨fun hi => ⟨selects_ckReset (ckResetIn_tx_eq_true.2 hi), fun _ => rfl⟩,
    fun hi => ⟨selects_ckReset (ckResetIn_rx_eq_true.2 hi), fun _ => rfl⟩, fun hb hn => ?_,
    fun hb h => ⟨selects_ckHold (ckResetIn_rx_eq_false.2 hb) ?_, fun _ => rfl⟩⟩
  · have hd : ckDone s .tx = true := ckDone_eq_true.2 hn
    refine ⟨selects_ckHold (ckResetIn_tx_eq_false.2 hb) (.inr hd), fun _ => ?_⟩
    show Host.Outcome.next (s.commitCk .tx s.ckTx) = _
    rw [State.commitCk, ckOut_of_done hd]
    rfl
  · exact h.imp beq_eq_false_iff_ne.2 ckDone_eq_true.2

/-- Settles O6, one part per engine. -/
theorem checksumFoldsOneBatch : Obligations.ChecksumFoldsOneBatch := by
  unfold Obligations.ChecksumFoldsOneBatch
  refine fun s => ⟨fun hb hn => ⟨?_, ?_⟩, fun hc hn => ⟨?_, ?_⟩⟩
  · exact selects_ckAccum (u := .tx) (ckResetIn_tx_eq_false.2 hb) (bne_iff_ne.2 hb) (ckDone_of_cnt_lt hn)
  · show Host.Outcome.next (ckAccum .tx s) = _
    rw [ckAccum_of_cnt_lt (u := .tx) hn, State.commitCk, ckOut_of_cnt_lt (u := .tx) hn]
    rfl
  · have hb : s.rx.state ≠ R_IDLE := by rw [hc]; decide
    exact selects_ckAccum (u := .rx) (ckResetIn_rx_eq_false.2 hb) (beq_iff_eq.2 hc) (ckDone_of_cnt_lt hn)
  · show Host.Outcome.next (ckAccum .rx s) = _
    rw [ckAccum_of_cnt_lt (u := .rx) hn, State.commitCk, ckOut_of_cnt_lt (u := .rx) hn]
    rfl

/-! The header registers are stable (R145, 43_extractor.md R204). -/

section

variable {s : State}

/-- Outside idle the framer keeps `H`. -/
theorem frNext_h_of_busy (hb : s.fr.state ≠ F_IDLE) : (frNext s).h = s.fr.h := by
  rw [frNext, if_neg hb]
  split_ifs <;> rfl

/-- Outside `E_IDLE` and `E_HEADER` the extractor keeps `G`. -/
theorem exNext_g_of_payload (hi : s.ex.state ≠ E_IDLE) (hh : s.ex.state ≠ E_HEADER) : (exNext s).g = s.ex.g := by
  rw [exNext, if_neg hi, if_neg hh]
  split_ifs <;> rfl

/-- An idle framer that changes `H` selects `FR_LOAD`. -/
theorem selects_frLoad_of_h_ne (hi : s.fr.state = F_IDLE) (hne : (frNext s).h ≠ s.fr.h) :
    Selects s .fr (.frLoad (frSel s)) := by
  rw [frNext, if_pos hi] at hne
  split at hne
  · rename_i hload
    obtain ⟨hv, hsop⟩ := Bool.and_eq_true_iff.1 hload
    have hstate : (frSel s).state = F_IDLE := hi
    have hvalid : (frSel s).moValid = true := hv
    have hstart : (frSel s).moSop = true := hsop
    simp [Selects, selWord, decode_fr, hstate, hvalid, hstart]
  · exact absurd rfl hne

/-- While the receive pipeline is busy a running cycle keeps `G`. -/
theorem exNext_g_of_rx_busy (hs : Sound s) (hb : s.rx.state ≠ R_IDLE) : (exNext s).g = s.ex.g := by
  have hp := hs.payload_of_rx_busy hb
  exact exNext_g_of_payload (by rw [hp]; decide) (by rw [hp]; decide)

end

/-- Settles O49, one lemma per part. -/
theorem headersAreStable : Obligations.HeadersAreStable := by
  unfold Obligations.HeadersAreStable
  intro s t hs hr h
  rw [step_running hr h, runCycle_fr, runCycle_ex]
  refine ⟨fun hne => ?_, frNext_h_of_busy, fun hne => ?_, fun hb => ⟨hs.payload_of_rx_busy hb, exNext_g_of_rx_busy hs hb⟩⟩
  · have hi : s.fr.state = F_IDLE := not_not.1 (mt frNext_h_of_busy hne)
    exact ⟨selects_frLoad_of_h_ne hi hne, ckResetIn_tx_eq_true.2 hi⟩
  · by_contra! hp
    exact hne (exNext_g_of_payload hp.1 hp.2)

/-! The accumulator is the fold of the words counted so far (R144). -/

/-- The clause of `ChecksumTracks` on one engine's registers, for the header the engine reads. -/
def CkTracks (c : Config) (u : CkInst) (X : Header) (r : CkRegs) : Prop :=
  r.acc = foldSum ((foldedWords c u r.cnt.toNat).map (headerWord X))

/-- A cleared engine has folded no word, of any header. -/
theorem ckTracks_zero (c : Config) (u : CkInst) (X : Header) : CkTracks c u X ⟨0, 0⟩ := by
  simp [CkTracks, foldedWords, foldSum, foldFrom]

/-- Folding the next batch and counting it keeps the accumulator at the fold of the counted words. -/
theorem CkTracks.fold_batch {c : Config} {u : CkInst} {X : Header} {r : CkRegs} (h : CkTracks c u X r)
    (hcnt : r.cnt.toNat < 15) :
    CkTracks c u X ⟨foldFrom r.acc ((batch c u r.cnt.toNat).map (headerWord X)), r.cnt + 1⟩ := by
  have hnext : (r.cnt + 1).toNat = r.cnt.toNat + 1 := by bv_omega
  unfold CkTracks at *
  rw [hnext, foldedWords, take_batch, List.map_append, foldSum, foldFrom_append, h]
  rfl

/-- All words are counted once the engine is done. -/
theorem CkTracks.acc_of_done {s : State} {u : CkInst} (h : CkTracks s.cfg u (s.ckHeader u) (s.ck u))
    (hw : 1 ≤ s.cfg.wpc) (hd : ckDone s u = true) :
    (s.ck u).acc = foldSum ((wordList u).map (headerWord (s.ckHeader u))) := by
  rw [h, ckDone_eq_true.1 hd, foldedWords_numBatches hw]

/-- A cycle in which the engine is reset clears it; in any other it holds or folds the next batch, over a header that stays. -/
theorem ckNext_tracks {s : State} {u : CkInst} (hl : s.cfg.legal = true)
    (h : ckResetIn s u = false → CkTracks s.cfg u (s.ckHeader u) (s.ck u)) {X : Header}
    (hX : ckResetIn s u = false → X = s.ckHeader u) : CkTracks s.cfg u X (ckNext s u) := by
  unfold ckNext
  by_cases hr : ckResetIn s u = true
  · rw [if_pos hr]
    exact ckTracks_zero ..
  · have hrun : ckResetIn s u = false := by simpa using hr
    have hkeep := h hrun
    have hN := numBatches_le hl u
    obtain rfl := hX hrun
    rw [if_neg hr]
    split_ifs
    · exact hkeep.fold_batch (by omega)
    · exact hkeep
    · exact hkeep

/-- A running cycle keeps the header of an engine that is not reset. -/
theorem runCycle_ckHeader {s : State} (hs : Sound s) {u : CkInst} (hr : ckResetIn s u = false) :
    (runCycle s).ckHeader u = s.ckHeader u := by
  cases u with
  | tx => exact (congrArg FrRegs.h (runCycle_fr s)).trans (frNext_h_of_busy (ckResetIn_tx_eq_false.1 hr))
  | rx => exact (congrArg ExRegs.g (runCycle_ex s)).trans (exNext_g_of_rx_busy hs (ckResetIn_rx_eq_false.1 hr))

theorem checksumTracks_runCycle {s : State} (hs : Sound s) (hl : s.cfg.legal = true) (h : ChecksumTracks s) :
    ChecksumTracks (runCycle s) where
  tx := fun _ => by
    rw [runCycle_ckTx]
    exact ckNext_tracks (u := .tx) hl (fun hr => h.tx (ckResetIn_tx_eq_false.1 hr)) (runCycle_ckHeader hs)
  rx := fun _ => by
    rw [runCycle_ckRx]
    exact ckNext_tracks (u := .rx) hl (fun hr => h.rx (ckResetIn_rx_eq_false.1 hr)) (runCycle_ckHeader hs)

/-- A registration writes neither `WPC` nor a register of an engine. -/
theorem checksumTracks_xbRegister {s : State} (h : ChecksumTracks s) : ChecksumTracks (xbRegister s) := by
  unfold xbRegister
  split <;> exact ⟨h.tx, h.rx⟩

/-- With both pipelines idle nothing is to show. -/
theorem checksumTracks_of_idle {s : State} (hf : s.fr.state = F_IDLE) (hr : s.rx.state = R_IDLE) : ChecksumTracks s :=
  ⟨fun h => absurd hf h, fun h => absurd hr h⟩

/-- Settles O48, by the kinds of step: a reset leaves both pipelines idle, a registration leaves the engines alone, and a running cycle is
`checksumTracks_runCycle`. -/
theorem checksumTracksIsKept : Obligations.ChecksumTracksIsKept := by
  unfold Obligations.ChecksumTracksIsKept
  refine ⟨checksumTracks_of_idle rfl rfl, fun s t hs htr h => ?_⟩
  obtain ⟨-, ⟨-, -, e⟩ | ⟨-, -, e⟩ | ⟨-, -, -, rfl⟩ | ⟨-, hl, -, rfl⟩⟩ := step_cases h
  · obtain rfl : xbRegisterDup s = t := Host.Outcome.next.inj e
    exact ⟨htr.tx, htr.rx⟩
  · obtain rfl : xbRegister s = t := Host.Outcome.next.inj e
    exact checksumTracks_xbRegister htr
  · exact checksumTracks_of_idle rfl rfl
  · exact checksumTracks_runCycle hs hl htr

/-! The value at `done` (R144, R145) and the header the framer emits after it (R142). -/

theorem one_le_wpc_of_legal {c : Config} (h : c.legal = true) : 1 ≤ c.wpc := by
  simp only [Config.legal, Bool.and_eq_true, decide_eq_true_eq] at h
  exact h.1.2

theorem ckTx_acc_of_done {s : State} (hl : s.cfg.legal = true) (htr : ChecksumTracks s) (hb : s.fr.state ≠ F_IDLE)
    (hd : ckDone s .tx = true) : s.ckTx.acc = foldSum ((wordList .tx).map (headerWord s.fr.h)) :=
  CkTracks.acc_of_done (u := .tx) (htr.tx hb) (one_le_wpc_of_legal hl) hd

theorem ckRx_acc_of_done {s : State} (hl : s.cfg.legal = true) (htr : ChecksumTracks s) (hb : s.rx.state ≠ R_IDLE)
    (hd : ckDone s .rx = true) : s.ckRx.acc = foldSum ((wordList .rx).map (headerWord s.ex.g)) :=
  CkTracks.acc_of_done (u := .rx) (htr.rx hb) (one_le_wpc_of_legal hl) hd

/-- Settles O10: `value` is the complement of the accumulator, as `CKSUM` is of the fold. -/
theorem valueAtDoneIsTheChecksum : Obligations.ValueAtDoneIsTheChecksum := by
  unfold Obligations.ValueAtDoneIsTheChecksum
  refine fun s hl htr => ⟨fun hb hd => ?_, fun hb hd => ?_⟩
  · have hacc := ckTx_acc_of_done hl htr hb hd
    exact ⟨hacc, congrArg (~~~ ·) hacc⟩
  · have hacc := ckRx_acc_of_done hl htr hb hd
    exact ⟨hacc, congrArg (~~~ ·) hacc⟩

/-- The bytes the framer emits are those of `H` with `CK_TX.value` inserted (42_framer.md R161). -/
theorem headerByte_eq_put16 (s : State) (i : Nat) (h : i < 20) :
    headerByte s i h = (put16 s.fr.h 10 (ckValue s .tx))[i] := by
  rw [put16_getElem, headerByte, byteAt]
  by_cases h10 : i = 10
  · subst h10
    rfl
  by_cases h11 : i = 11
  · subst h11
    rfl
  · rw [if_neg h10, if_neg h11, if_neg (Ne.symm h11), if_neg (Ne.symm h10)]

/-- Settles O12: after `done` the inserted value is the checksum of `H`. -/
theorem insertedChecksumVerifies : Obligations.InsertedChecksumVerifies := by
  unfold Obligations.InsertedChecksumVerifies
  refine ⟨cksum_insert_checksum, fun s X hl htr hb hd hX => ?_⟩
  have hvalue : ckValue s .tx = cksum s.fr.h .tx := congrArg (~~~ ·) (ckTx_acc_of_done hl htr hb hd)
  have hemit : X = put16 s.fr.h 10 (cksum s.fr.h .tx) := by
    refine Vector.ext fun i h => ?_
    rw [hX i h, headerByte_eq_put16, hvalue]
  rw [hemit]
  exact cksum_insert_checksum s.fr.h

end Sys2Proof.Machine
end

section
/-! SUPPORT. The framer: the header it assembles (42_framer.md R160) and the fields read back from it (43_extractor.md R190), what it
drives in each state (R161, R162), what its table selects and what each operation makes of that (R163 to R171), and the unused state codes
of the three units that have one (R172, 43_extractor.md R203, 44_tx_pipeline.md R234). -/

namespace Sys2Proof.Machine

open Sys2Proof.Safety

/-! Reading big-endian fields (20_memory.md R63). -/

/-- Two bytes that are the halves of a value read as that value. -/
theorem be16_of_bytes {X : Header} {i : Nat} {h : i + 1 < 20} {v : Half} (h0 : X[i] = v.extractLsb' 8 8)
    (h1 : X[i + 1] = v.extractLsb' 0 8) : be16 X i h = v := by
  rw [be16, h0, h1, BitVec.extractLsb'_append_extractLsb']

/-- Four bytes that are the quarters of a value read as that value. -/
theorem be32_of_bytes {X : Header} {i : Nat} {h : i + 3 < 20} {v : Ip} (h0 : X[i] = v.extractLsb' 24 8)
    (h1 : X[i + 1] = v.extractLsb' 16 8) (h2 : X[i + 2] = v.extractLsb' 8 8) (h3 : X[i + 3] = v.extractLsb' 0 8) :
    be32 X i h = v := by
  rw [be32, h0, h1, h2, h3, BitVec.extractLsb'_append_extractLsb'_eq_extractLsb' (by rfl : 24 = 16 + 8),
    BitVec.extractLsb'_append_extractLsb'_eq_extractLsb' (by rfl : 16 = 8 + 8),
    BitVec.extractLsb'_append_extractLsb'_eq_extractLsb' (by rfl : 8 = 0 + 8)]
  exact BitVec.extractLsb'_eq_self

/-! The assembled header (42_framer.md R160). -/

/-- Settles O16: the six writes of `ASSEMBLE` go to fixed offsets of the zero header, so the twenty bytes are found by evaluating them. -/
theorem assembledHeaderBytes : Obligations.AssembledHeaderBytes := by
  unfold Obligations.AssembledHeaderBytes
  intro c dst p len
  rfl

/-- Settles O22: a field of one byte, or a part of one, is read off the byte at its offset; a longer one is put together from its bytes. -/
theorem unpackingInvertsPacking : Obligations.UnpackingInvertsPacking := by
  unfold Obligations.UnpackingInvertsPacking
  intro c dst p len
  have byte (i : Nat) (h : i < 20 := by decide) :=
    (Vector.getElem_toList (xs := assemble c dst p len) (i := i) (by rwa [Vector.length_toList])).symm
  simp only [assembledHeaderBytes c dst p len] at byte
  have hfirst : (assemble c dst p len)[0] = 0x45 := byte 0
  refine ⟨?version, ?ihl, ?totalLength, ?identification, byte 8, byte 9,
    be16_assemble_checksum c dst p len, ?srcIp, ?dstIp⟩
  case version => rw [version, byteAt, hfirst]; rfl
  case ihl => rw [ihl, byteAt, hfirst]; rfl
  case totalLength => exact be16_of_bytes (byte 2) (byte 3)
  case identification => exact be16_of_bytes (byte 4) (byte 5)
  case srcIp => exact be32_of_bytes (byte 12) (byte 13) (byte 14) (byte 15)
  case dstIp => exact be32_of_bytes (byte 16) (byte 17) (byte 18) (byte 19)

variable {s : State}

/-! What the framer drives (42_framer.md R161, R162). -/

theorem moReady_idle (h : s.fr.state = F_IDLE) : moReady s = !(mo s).sop := by
  rw [moReady, if_pos h]

theorem moReady_payload (h : s.fr.state = F_PAYLOAD) : moReady s = frsReady s := by
  rw [moReady, if_neg (by rw [h]; decide), if_pos h]

/-- Outside `F_IDLE` and `F_PAYLOAD` the framer takes no beat. -/
theorem moReady_other (hi : s.fr.state ≠ F_IDLE) (hp : s.fr.state ≠ F_PAYLOAD) : moReady s = false := by
  rw [moReady, if_neg hi, if_neg hp]

theorem frs_header (h : s.fr.state = F_HEADER) (hi : s.fr.idx.toNat < 20) :
    frs s = { valid := true, data := headerByte s s.fr.idx.toNat hi, sop := s.fr.idx == 0, eop := false } := by
  rw [frs, if_pos h, dif_pos hi]

theorem frs_payload (h : s.fr.state = F_PAYLOAD) :
    frs s = if (mo s).valid then { valid := true, data := (mo s).data, sop := false, eop := (mo s).eop } else {} := by
  rw [frs, if_neg (by rw [h]; decide), if_pos h]

theorem frs_unused (h : s.fr.state = 0b11#2) : frs s = {} := by
  rw [frs, if_neg (by rw [h]; decide), if_neg (by rw [h]; decide)]

theorem frOut_idle (h : s.fr.state = F_IDLE) : frOut s = { moReady := !(mo s).sop, frs := {} } := by
  rw [frOut, moReady_idle h, frs_idle h]

theorem frOut_header (h : s.fr.state = F_HEADER) (hi : s.fr.idx.toNat < 20) :
    frOut s =
      { moReady := false,
        frs := { valid := true, data := headerByte s s.fr.idx.toNat hi, sop := s.fr.idx == 0, eop := false } } := by
  rw [frOut, moReady_other (by rw [h]; decide) (by rw [h]; decide), frs_header h hi]

theorem frOut_payload (h : s.fr.state = F_PAYLOAD) :
    frOut s =
      { moReady := frsReady s,
        frs := if (mo s).valid then { valid := true, data := (mo s).data, sop := false, eop := (mo s).eop } else {} } := by
  rw [frOut, moReady_payload h, frs_payload h]

theorem frOut_unused (h : s.fr.state = 0b11#2) : frOut s = {} := by
  rw [frOut, moReady_other (by rw [h]; decide) (by rw [h]; decide), frs_unused h]

/-- In the payload phase `FRS` carries a beat exactly when `MO` does. -/
theorem frs_valid_payload (h : s.fr.state = F_PAYLOAD) : (frs s).valid = (mo s).valid := by
  rw [frs_payload h]
  cases hv : (mo s).valid <;> rfl

/-- In the payload phase a beat enters on `MO` exactly when it leaves on `FRS`. -/
theorem xfer_mo_eq_xfer_frs (h : s.fr.state = F_PAYLOAD) :
    xfer (mo s).valid (frOut s).moReady = xfer (frOut s).frs.valid (frsReady s) := by
  show xfer (mo s).valid (moReady s) = xfer (frs s).valid (frsReady s)
  rw [moReady_payload h, frs_valid_payload h]

/-- Settles O17, one lemma per state. -/
theorem framerOutputs : Obligations.FramerOutputs := by
  unfold Obligations.FramerOutputs
  exact fun s => ⟨fun _ _ => rfl, frOut_idle, frOut_header, fun h => ⟨frOut_payload h, xfer_mo_eq_xfer_frs h⟩, frOut_unused⟩

/-! What the framer's table selects (30_encoding.md R115). -/

/-- The framer's table on the registers and the inputs of the cycle. -/
theorem selects_fr (s : State) : Selects s .fr
    (if s.fr.state = F_IDLE then
      if (mo s).valid then if (mo s).sop then .frLoad (frSel s) else .frSkip (frSel s) else .frIdleWait (frSel s)
    else if s.fr.state = F_HEADER then
      if frsReady s then if s.fr.idx == 19 then .frHdrLast (frSel s) else .frHdr (frSel s) else .frHdrStall (frSel s)
    else if s.fr.state = F_PAYLOAD then
      if (mo s).valid && frsReady s then if (mo s).eop then .frPayEop (frSel s) else .frPay (frSel s)
      else .frPayStall (frSel s)
    else .frIllegal (frSel s)) :=
  decode_fr (frSel s)

theorem selects_fr_idle (h : s.fr.state = F_IDLE) : Selects s .fr
    (if (mo s).valid then if (mo s).sop then .frLoad (frSel s) else .frSkip (frSel s) else .frIdleWait (frSel s)) := by
  have hsel := selects_fr s
  rwa [if_pos h] at hsel

/-- A header byte that goes out is the last one or not; one that does not is held. -/
theorem selects_fr_emit (h : s.fr.state = F_HEADER) : Selects s .fr
    (if frsReady s then if s.fr.idx == 19 then .frHdrLast (frSel s) else .frHdr (frSel s) else .frHdrStall (frSel s)) := by
  have hsel := selects_fr s
  rwa [if_neg (by rw [h]; decide), if_pos h] at hsel

theorem selects_fr_payload (h : s.fr.state = F_PAYLOAD) : Selects s .fr
    (if (mo s).valid && frsReady s then if (mo s).eop then .frPayEop (frSel s) else .frPay (frSel s)
      else .frPayStall (frSel s)) := by
  have hsel := selects_fr s
  rwa [if_neg (by rw [h]; decide), if_neg (by rw [h]; decide), if_pos h] at hsel

theorem selects_fr_unused (h : s.fr.state = 0b11#2) : Selects s .fr (.frIllegal (frSel s)) := by
  have hsel := selects_fr s
  rwa [if_neg (by rw [h]; decide), if_neg (by rw [h]; decide), if_neg (by rw [h]; decide)] at hsel

/-! What an operation of the framer leaves, given what the framer drives (42_framer.md R163 to R171). -/

theorem commitFr_of_frOut {o : FrOut} (h : frOut s = o) (r : FrRegs) :
    s.commitFr r = { s with fr := r, out := { s.out with fr := o } } := by
  rw [State.commitFr, h]

/-- A discarded beat is recorded, with the registers as they were. -/
theorem frSkip_of_frOut {o : FrOut} (h : frOut s = o) : frSkip s =
    { s with out := { s.out with fr := o }, events := s.events ++ [⟨.strayBeat, .FR, s.cycle⟩] } := by
  rw [frSkip, commitFr_of_frOut h]
  rfl

/-- A header offset below 20 is in range. -/
theorem frIllegal_of_header {r : FrRegs} (hs : r.state = F_HEADER) (hi : r.idx.toNat < 20) : frIllegal r = false := by
  rw [frIllegal, hs, decide_eq_false hi.not_ge]
  rfl

theorem frHdr_of_idx (hs : s.fr.state = F_HEADER) (hi : s.fr.idx.toNat < 20) :
    frHdr s = s.commitFr { s.fr with idx := s.fr.idx + 1 } := by
  simp [frHdr, frIllegal_of_header hs hi]

theorem frHdrStall_of_idx (hs : s.fr.state = F_HEADER) (hi : s.fr.idx.toNat < 20) : frHdrStall s = s.commitFr s.fr := by
  simp [frHdrStall, frIllegal_of_header hs hi]

/-- Settles O18: a sop beat is refused in `F_IDLE`, and `FR_LOAD` is `commitFr` with the assembled header. -/
theorem framerLoadsTheHeader : Obligations.FramerLoadsTheHeader := by
  unfold Obligations.FramerLoadsTheHeader
  intro s hs hv hsop
  have hout : frOut s = { moReady := false, frs := {} } := by rw [frOut_idle hs, hsop]; rfl
  refine ⟨?_, fun _ => congrArg Host.Outcome.next (commitFr_of_frOut hout _)⟩
  simpa [hv, hsop] using selects_fr_idle hs

/-- Settles O19, one part per operation. -/
theorem framerIdles : Obligations.FramerIdles := by
  unfold Obligations.FramerIdles
  refine fun s hs => ⟨fun hv hsop => ?skip, fun hv => ?wait⟩
  case skip =>
    have hout : frOut s = { moReady := true, frs := {} } := by rw [frOut_idle hs, hsop]; rfl
    refine ⟨?_, fun _ => congrArg Host.Outcome.next (frSkip_of_frOut hout)⟩
    simpa [hv, hsop] using selects_fr_idle hs
  case wait =>
    refine ⟨?_, fun _ => congrArg Host.Outcome.next (commitFr_of_frOut (frOut_idle hs) _)⟩
    simpa [hv] using selects_fr_idle hs

/-- Settles O20, one part per operation. -/
theorem framerEmitsTheHeader : Obligations.FramerEmitsTheHeader := by
  unfold Obligations.FramerEmitsTheHeader
  refine fun s hs => ⟨fun hi hr => ⟨?_, fun _ => ?emit⟩, fun hi hr => ⟨?_, fun _ => ?last⟩,
    fun hi hr => ⟨?_, fun _ => ?hold⟩⟩
  · have hne : s.fr.idx ≠ 19 := fun e => by rw [e] at hi; exact absurd hi (by decide)
    simpa [hr] using selects_fr_header hs hne
  case emit =>
    show Host.Outcome.next (frHdr s) = _
    rw [frHdr_of_idx hs (Nat.lt_succ_of_lt hi), commitFr_of_frOut (frOut_header hs _)]
  · simpa [hr, hi] using selects_fr_emit hs
  case last =>
    have hlt : s.fr.idx.toNat < 20 := by rw [hi]; decide
    have hout : frOut s =
        { moReady := false, frs := { valid := true, data := s.fr.h[19], sop := false, eop := false } } := by
      rw [frOut_header hs hlt]
      simp only [hi]
      rfl
    exact congrArg Host.Outcome.next (commitFr_of_frOut hout _)
  · simpa [hr] using selects_fr_emit hs
  case hold =>
    show Host.Outcome.next (frHdrStall s) = _
    rw [frHdrStall_of_idx hs hi, commitFr_of_frOut (frOut_header hs hi)]

/-- A payload byte that passes carries its own end marker, and never its start marker. -/
theorem frOut_payload_pass {e : Bool} (hs : s.fr.state = F_PAYLOAD) (hv : (mo s).valid = true) (he : (mo s).eop = e)
    (hr : frsReady s = true) :
    frOut s = { moReady := true, frs := { valid := true, data := (mo s).data, sop := false, eop := e } } := by
  rw [frOut_payload hs, hr, if_pos hv, he]

/-- Settles O21, one part per operation. -/
theorem framerPassesThePayload : Obligations.FramerPassesThePayload := by
  unfold Obligations.FramerPassesThePayload
  refine fun s hs => ⟨fun hv he hr => ?pass, fun hv he hr => ?last, fun h => ?stall⟩
  case pass =>
    refine ⟨?_, fun _ => congrArg Host.Outcome.next (commitFr_of_frOut (frOut_payload_pass hs hv he hr) _)⟩
    simpa [hv, he, hr] using selects_fr_payload hs
  case last =>
    refine ⟨?_, fun _ => congrArg Host.Outcome.next (commitFr_of_frOut (frOut_payload_pass hs hv he hr) _)⟩
    simpa [hv, he, hr] using selects_fr_payload hs
  case stall =>
    have hstay : ((mo s).valid && frsReady s) = false := Bool.and_eq_false_iff.2 h
    refine ⟨?_, fun _ => congrArg Host.Outcome.next (commitFr_of_frOut (frOut_payload hs) _)⟩
    simpa [hstay] using selects_fr_payload hs

/-! The unused state codes (42_framer.md R172, 43_extractor.md R203, 44_tx_pipeline.md R234). -/

theorem selects_ex_unused (h : s.ex.state = 0b11#2) : Selects s .ex (.exIllegal (exSel s)) := by
  have hstate : (exSel s).state = 0b11#2 := h
  rw [Selects, selWord, decode_ex, hstate]
  rfl

theorem exOut_unused (h : s.ex.state = 0b11#2) : exOut s = {} := by
  have hill : exIllegal s.ex = true := by rw [exIllegal, h]; rfl
  have hpay : ¬(s.ex.state = E_PAYLOAD ∧ s.curIn.l2rx.valid = true) := by
    rw [h]
    exact fun e => absurd e.1 (by decide)
  rw [exOut, l2rxReady, if_pos hill, exs, if_neg hpay]

/-- A transmit state code above 4 is none of the five that are in use. -/
theorem tx_code_ne_of_unused {c : BitVec 3} (h : c = 0b101#3 ∨ c = 0b110#3 ∨ c = 0b111#3) :
    c ≠ T_IDLE ∧ c ≠ T_REQUEST ∧ c ≠ T_AWAIT ∧ c ≠ T_SEND ∧ c ≠ T_DROP := by
  revert c; decide

theorem selects_tx_unused (h : s.tx.state = 0b101#3 ∨ s.tx.state = 0b110#3 ∨ s.tx.state = 0b111#3) :
    Selects s .tx (.txIllegal (txSel s)) := by
  obtain ⟨hidle, hrequest, hawait, hsend, hdrop⟩ : (txSel s).state ≠ T_IDLE ∧ (txSel s).state ≠ T_REQUEST ∧
    (txSel s).state ≠ T_AWAIT ∧ (txSel s).state ≠ T_SEND ∧ (txSel s).state ≠ T_DROP := tx_code_ne_of_unused h
  simp [Selects, selWord, decode_tx, hidle, hrequest, hawait, hsend, hdrop]

theorem txOut_unused (h : s.tx.state = 0b101#3 ∨ s.tx.state = 0b110#3 ∨ s.tx.state = 0b111#3) : txOut s = {} := by
  obtain ⟨-, hrequest, hawait, hsend, hdrop⟩ := tx_code_ne_of_unused h
  simp [txOut, frsReady, l2tx, arq, arsReady, unreachable, hrequest, hawait, hsend, hdrop]

/-- A faulted transmit pipeline that drives nothing. -/
theorem txFault_of_txOut (h : txOut s = {}) : txFault s =
    { s with out := { s.out with tx := {} }, events := s.events ++ [⟨.illegalState, .TXP, s.cycle⟩] } := by
  rw [← h]; rfl

/-- Settles O14, one part per unit: its table selects the illegal row, and the fault drives what the unit drives, which is nothing. -/
theorem unusedStateCodesHold : Obligations.UnusedStateCodesHold := by
  unfold Obligations.UnusedStateCodesHold
  exact fun s =>
    ⟨fun h => ⟨selects_fr_unused h, fun _ => congrArg Host.Outcome.next (frFault_of_frOut (frOut_unused h))⟩,
     fun h => ⟨selects_ex_unused h, fun _ => congrArg Host.Outcome.next (exFault_of_exOut (exOut_unused h))⟩,
     fun h => ⟨selects_tx_unused h, fun _ => congrArg Host.Outcome.next (txFault_of_txOut (txOut_unused h))⟩⟩

end Sys2Proof.Machine
end

section
/-! SUPPORT. The extractor: what it drives in each state (43_extractor.md R191), what its table selects (30_encoding.md R116) and what each
operation makes of that (R192 to R202). -/

namespace Sys2Proof.Machine

open Sys2Proof.Safety

variable {s : State}

/-! Legal registers: a state code in use and, in `E_HEADER`, a counter from 1 to 19 (43_extractor.md R203, 30_encoding.md R121). -/

theorem exIllegal_of_idle {r : ExRegs} (h : r.state = E_IDLE) : exIllegal r = false := by
  rw [exIllegal, h]; rfl

theorem exIllegal_of_header {r : ExRegs} (hs : r.state = E_HEADER) (hpos : 1 ≤ r.cnt.toNat) (hlt : r.cnt.toNat < 20) :
    exIllegal r = false := by
  have hne : (r.cnt == 0) = false := beq_false_of_ne fun e => by rw [e] at hpos; exact absurd hpos (by decide)
  rw [exIllegal, hs, hne, decide_eq_false hlt.not_ge]
  rfl

/-! What the extractor drives (43_extractor.md R191). -/

/-- With legal registers, outside the payload phase, the extractor takes every byte and shows none. -/
theorem exOut_of_legal (h : exIllegal s.ex = false) (hs : s.ex.state ≠ E_PAYLOAD) :
    exOut s = { l2rxReady := true, exs := {} } := by
  rw [exOut, l2rxReady, h, if_neg Bool.false_ne_true, if_neg hs, exs, if_neg fun e => hs e.1]

theorem exOut_idle (h : s.ex.state = E_IDLE) : exOut s = { l2rxReady := true, exs := {} } :=
  exOut_of_legal (exIllegal_of_idle h) (by rw [h]; decide)

theorem exOut_header (hs : s.ex.state = E_HEADER) (hpos : 1 ≤ s.ex.cnt.toNat) (hlt : s.ex.cnt.toNat < 20) :
    exOut s = { l2rxReady := true, exs := {} } :=
  exOut_of_legal (exIllegal_of_header hs hpos hlt) (by rw [hs]; decide)

theorem l2rxReady_payload (h : s.ex.state = E_PAYLOAD) : l2rxReady s = exsReady s := by
  rw [l2rxReady, exIllegal_of_payload h, if_neg Bool.false_ne_true, if_pos h]

theorem exs_payload (h : s.ex.state = E_PAYLOAD) :
    exs s =
      if s.curIn.l2rx.valid then
        { valid := true, data := s.curIn.l2rx.data, sop := s.ex.first, eop := s.curIn.l2rx.eop,
          error := s.curIn.l2rx.error }
      else {} := by
  simp only [exs, h, true_and]

theorem exOut_payload (h : s.ex.state = E_PAYLOAD) :
    exOut s =
      { l2rxReady := exsReady s,
        exs :=
          if s.curIn.l2rx.valid then
            { valid := true, data := s.curIn.l2rx.data, sop := s.ex.first, eop := s.curIn.l2rx.eop,
              error := s.curIn.l2rx.error }
          else {} } := by
  rw [exOut, l2rxReady_payload h, exs_payload h]

/-- In the payload phase `EXS` carries a beat exactly when `L2RX` does. -/
theorem exs_valid_payload (h : s.ex.state = E_PAYLOAD) : (exs s).valid = s.curIn.l2rx.valid := by
  rw [exs_payload h]
  cases hv : s.curIn.l2rx.valid <;> rfl

/-- In the payload phase a beat enters on `L2RX` exactly when it leaves on `EXS`. -/
theorem xfer_l2rx_eq_xfer_exs (h : s.ex.state = E_PAYLOAD) :
    xfer s.curIn.l2rx.valid (exOut s).l2rxReady = xfer (exOut s).exs.valid (exsReady s) := by
  show xfer s.curIn.l2rx.valid (l2rxReady s) = xfer (exs s).valid (exsReady s)
  rw [l2rxReady_payload h, exs_valid_payload h]

/-- Settles O23, one lemma per state. -/
theorem extractorOutputs : Obligations.ExtractorOutputs := by
  unfold Obligations.ExtractorOutputs
  exact fun s => ⟨exOut_idle, fun hs hpos hle => exOut_header hs hpos (Nat.lt_succ_of_le hle),
    fun h => ⟨exOut_payload h, xfer_l2rx_eq_xfer_exs h⟩, exOut_unused⟩

/-! What the extractor's table selects (30_encoding.md R116); before header byte 19 see `selects_ex_header`. -/

/-- The extractor's table on the registers and the inputs of the cycle. -/
theorem selects_ex (s : State) : Selects s .ex
    (if s.ex.state = E_IDLE then
      if s.curIn.l2rx.valid then
        if s.curIn.l2rx.sop then if s.curIn.l2rx.eop then .exIdleRunt (exSel s) else .exStart (exSel s)
        else .exSkip (exSel s)
      else .exIdleWait (exSel s)
    else if s.ex.state = E_HEADER then
      if s.curIn.l2rx.valid then
        if s.curIn.l2rx.eop then .exHdrRunt (exSel s)
        else if s.ex.cnt == 19 then .exHdrLast (exSel s) else .exHdr (exSel s)
      else .exHdrWait (exSel s)
    else if s.ex.state = E_PAYLOAD then
      if s.curIn.l2rx.valid && exsReady s then
        if s.curIn.l2rx.eop then .exPayEop (exSel s) else .exPay (exSel s)
      else .exPayStall (exSel s)
    else .exIllegal (exSel s)) :=
  decode_ex (exSel s)

theorem selects_ex_idle (h : s.ex.state = E_IDLE) : Selects s .ex
    (if s.curIn.l2rx.valid then
      if s.curIn.l2rx.sop then if s.curIn.l2rx.eop then .exIdleRunt (exSel s) else .exStart (exSel s)
      else .exSkip (exSel s)
    else .exIdleWait (exSel s)) := by
  have hsel := selects_ex s
  rwa [if_pos h] at hsel

/-- A header byte ends the frame, completes the header, or is one of those before. -/
theorem selects_ex_collect (h : s.ex.state = E_HEADER) : Selects s .ex
    (if s.curIn.l2rx.valid then
      if s.curIn.l2rx.eop then .exHdrRunt (exSel s)
      else if s.ex.cnt == 19 then .exHdrLast (exSel s) else .exHdr (exSel s)
    else .exHdrWait (exSel s)) := by
  have hsel := selects_ex s
  rwa [if_neg (by rw [h]; decide), if_pos h] at hsel

theorem selects_ex_payload (h : s.ex.state = E_PAYLOAD) : Selects s .ex
    (if s.curIn.l2rx.valid && exsReady s then
      if s.curIn.l2rx.eop then .exPayEop (exSel s) else .exPay (exSel s)
    else .exPayStall (exSel s)) := by
  have hsel := selects_ex s
  rwa [if_neg (by rw [h]; decide), if_neg (by rw [h]; decide), if_pos h] at hsel

/-! What an operation of the extractor leaves, given what the extractor drives (43_extractor.md R192 to R202). -/

theorem commitEx_of_exOut {o : ExOut} (h : exOut s = o) (r : ExRegs) :
    s.commitEx r = { s with ex := r, out := { s.out with ex := o } } := by
  rw [State.commitEx, h]

/-- An operation that also records an event. -/
theorem commitEx_raise_of_exOut {o : ExOut} (h : exOut s = o) (r : ExRegs) (c : Cause) :
    (s.commitEx r).raise c .EX =
      { s with ex := r, out := { s.out with ex := o }, events := s.events ++ [⟨c, .EX, s.cycle⟩] } := by
  rw [commitEx_of_exOut h]
  rfl

theorem storeByte_of_lt {i : BitVec 5} (h : i.toNat < 20) (g : Header) (v : Byte) :
    storeByte g i v = g.set i.toNat v h := by
  rw [storeByte, dif_pos h, putByte]

theorem exHdrRunt_of_legal (h : exIllegal s.ex = false) (hlt : s.ex.cnt.toNat < 20) : exHdrRunt s =
    (s.commitEx { s.ex with g := s.ex.g.set s.ex.cnt.toNat s.curIn.l2rx.data hlt, state := E_IDLE }).raise
      .runtFrame .EX := by
  rw [exHdrRunt, h, if_neg Bool.false_ne_true, storeByte_of_lt hlt]

theorem exHdr_of_legal (h : exIllegal s.ex = false) (hlt : s.ex.cnt.toNat < 20) : exHdr s =
    s.commitEx { s.ex with g := s.ex.g.set s.ex.cnt.toNat s.curIn.l2rx.data hlt, cnt := s.ex.cnt + 1 } := by
  rw [exHdr, h, if_neg Bool.false_ne_true, storeByte_of_lt hlt]

theorem exHdrWait_of_legal (h : exIllegal s.ex = false) : exHdrWait s = s.commitEx s.ex := by
  rw [exHdrWait, h, if_neg Bool.false_ne_true]

/-- Settles O24, one part per operation. -/
theorem extractorIdles : Obligations.ExtractorIdles := by
  unfold Obligations.ExtractorIdles
  intro s hs
  have hsel := selects_ex_idle hs
  have hout := exOut_idle hs
  refine ⟨fun hv hsop he => ?start, fun hv hsop he => ?runt, fun hv hsop => ?skip, fun hv => ?wait⟩
  case start =>
    refine ⟨?_, fun _ => congrArg Host.Outcome.next (commitEx_of_exOut hout _)⟩
    simpa [hv, hsop, he] using hsel
  case runt =>
    refine ⟨?_, fun _ => congrArg Host.Outcome.next (commitEx_raise_of_exOut hout _ _)⟩
    simpa [hv, hsop, he] using hsel
  case skip =>
    refine ⟨?_, fun _ => congrArg Host.Outcome.next (commitEx_raise_of_exOut hout _ _)⟩
    simpa [hv, hsop] using hsel
  case wait =>
    refine ⟨?_, fun _ => congrArg Host.Outcome.next (commitEx_of_exOut hout _)⟩
    simpa [hv] using hsel

/-- Settles O25, one part per operation. -/
theorem extractorBuffersTheHeader : Obligations.ExtractorBuffersTheHeader := by
  unfold Obligations.ExtractorBuffersTheHeader
  intro s hs
  have hsel := selects_ex_collect hs
  refine ⟨fun hlt hpos hv he => ⟨?_, fun _ => ?store⟩, fun hc hv he => ⟨?_, fun _ => ?last⟩,
    fun hlt hpos hv he => ⟨?_, fun _ => ?runt⟩, fun hpos hle hv => ⟨?_, fun _ => ?wait⟩⟩
  · have hne : s.ex.cnt ≠ 19 := fun e => by rw [e] at hlt; exact absurd hlt (by decide)
    simpa [hv, he] using selects_ex_header hs hne
  case store =>
    have hlt20 := Nat.lt_succ_of_lt hlt
    show Host.Outcome.next (exHdr s) = _
    rw [exHdr_of_legal (exIllegal_of_header hs hpos hlt20) hlt20, commitEx_of_exOut (exOut_header hs hpos hlt20)]
  · simpa [hv, he, hc] using hsel
  case last =>
    have hout := exOut_header hs (by rw [hc]; decide) (by rw [hc]; decide)
    exact congrArg Host.Outcome.next (commitEx_of_exOut hout _)
  · simpa [hv, he] using hsel
  case runt =>
    show Host.Outcome.next (exHdrRunt s) = _
    rw [exHdrRunt_of_legal (exIllegal_of_header hs hpos hlt) hlt, commitEx_raise_of_exOut (exOut_header hs hpos hlt)]
  · simpa [hv] using hsel
  case wait =>
    have hlt := Nat.lt_succ_of_le hle
    show Host.Outcome.next (exHdrWait s) = _
    rw [exHdrWait_of_legal (exIllegal_of_header hs hpos hlt), commitEx_of_exOut (exOut_header hs hpos hlt)]

/-- A payload byte that passes carries its own end marker and error flag; only the first one carries the start marker. -/
theorem exOut_payload_pass {e : Bool} (hs : s.ex.state = E_PAYLOAD) (hv : s.curIn.l2rx.valid = true)
    (he : s.curIn.l2rx.eop = e) (hr : exsReady s = true) :
    exOut s =
      { l2rxReady := true,
        exs := { valid := true, data := s.curIn.l2rx.data, sop := s.ex.first, eop := e, error := s.curIn.l2rx.error } } := by
  rw [exOut_payload hs, hr, if_pos hv, he]

/-- Settles O26, one part per operation. -/
theorem extractorPassesThePayload : Obligations.ExtractorPassesThePayload := by
  unfold Obligations.ExtractorPassesThePayload
  intro s hs
  have hsel := selects_ex_payload hs
  refine ⟨fun hv he hr => ?pass, fun hv he hr => ?last, fun h => ?stall⟩
  case pass =>
    refine ⟨?_, fun _ => congrArg Host.Outcome.next (commitEx_of_exOut (exOut_payload_pass hs hv he hr) _)⟩
    simpa [hv, he, hr] using hsel
  case last =>
    refine ⟨?_, fun _ => congrArg Host.Outcome.next (commitEx_of_exOut (exOut_payload_pass hs hv he hr) _)⟩
    simpa [hv, he, hr] using hsel
  case stall =>
    have hstay : (s.curIn.l2rx.valid && exsReady s) = false := Bool.and_eq_false_iff.2 h
    refine ⟨?_, fun _ => congrArg Host.Outcome.next (commitEx_of_exOut (exOut_payload hs) _)⟩
    simpa [hstay] using hsel

end Sys2Proof.Machine
end

section
/-! SUPPORT. The transmit pipeline: what it drives in each state (44_tx_pipeline.md R220), what its table selects (30_encoding.md R117) and
what each operation makes of that (R221 to R233). -/

namespace Sys2Proof.Machine

open Sys2Proof.Safety

variable {s : State}

/-! What the transmit pipeline drives (44_tx_pipeline.md R220): each signal outside the states that drive it, then all of them per state. -/

theorem frsReady_other (hs : s.tx.state ≠ T_SEND) (hd : s.tx.state ≠ T_DROP) : frsReady s = false := by
  rw [frsReady, if_neg hs, if_neg hd]

theorem frsReady_send (h : s.tx.state = T_SEND) : frsReady s = s.curIn.l2txReady := by
  rw [frsReady, if_pos h]

theorem frsReady_drop (h : s.tx.state = T_DROP) : frsReady s = true := by
  rw [frsReady, if_neg (by rw [h]; decide), if_pos h]

/-- Outside `T_SEND` nothing is presented on `L2TX`. -/
theorem l2tx_other (h : s.tx.state ≠ T_SEND) : l2tx s = {} := by
  rw [l2tx, if_neg fun e => h e.1]

theorem l2tx_send (h : s.tx.state = T_SEND) :
    l2tx s =
      if (frs s).valid then
        { valid := true, data := (frs s).data, sop := (frs s).sop, eop := (frs s).eop, error := false,
          dstMac := s.tx.mac, srcMac := s.cfg.localMac, ethertype := s.cfg.ethertype }
      else {} := by
  simp only [l2tx, h, true_and]

theorem arq_other (h : s.tx.state ≠ T_REQUEST) : arq s = {} := if_neg h

theorem arq_request (h : s.tx.state = T_REQUEST) : arq s = { valid := true, ip := s.tx.reqIp } := if_pos h

/-- Outside `T_AWAIT` a response is not taken. -/
theorem arsReady_other (h : s.tx.state ≠ T_AWAIT) : arsReady s = false := beq_false_of_ne h

theorem unreachable_other (h : s.tx.state ≠ T_AWAIT) : unreachable s = false := by
  rw [unreachable, beq_false_of_ne h, Bool.false_and, Bool.false_and]

theorem unreachable_await (h : s.tx.state = T_AWAIT) : unreachable s = (s.curIn.ars.valid && s.curIn.ars.failed) := by
  rw [unreachable, h, beq_self_eq_true, Bool.true_and]

theorem txOut_idle (h : s.tx.state = T_IDLE) : txOut s = {} := by
  rw [txOut, frsReady_other, l2tx_other, arq_other, arsReady_other, unreachable_other] <;> rw [h] <;> decide

theorem txOut_request (h : s.tx.state = T_REQUEST) :
    txOut s = { arq := { valid := true, ip := s.tx.reqIp } } := by
  rw [txOut, arq_request h, frsReady_other, l2tx_other, arsReady_other, unreachable_other] <;> rw [h] <;> decide

theorem txOut_await (h : s.tx.state = T_AWAIT) :
    txOut s = { arsReady := true, unreachable := s.curIn.ars.valid && s.curIn.ars.failed } := by
  have hars : arsReady s = true := beq_iff_eq.2 h
  rw [txOut, hars, unreachable_await h, frsReady_other, l2tx_other, arq_other] <;> rw [h] <;> decide

theorem txOut_send (h : s.tx.state = T_SEND) :
    txOut s =
      { frsReady := s.curIn.l2txReady,
        l2tx :=
          if (frs s).valid then
            { valid := true, data := (frs s).data, sop := (frs s).sop, eop := (frs s).eop, error := false,
              dstMac := s.tx.mac, srcMac := s.cfg.localMac, ethertype := s.cfg.ethertype }
          else {} } := by
  rw [txOut, frsReady_send h, l2tx_send h, arq_other, arsReady_other, unreachable_other] <;> rw [h] <;> decide

theorem txOut_drop (h : s.tx.state = T_DROP) : txOut s = { frsReady := true } := by
  rw [txOut, frsReady_drop h, l2tx_other, arq_other, arsReady_other, unreachable_other] <;> rw [h] <;> decide

/-- In `T_SEND`, `L2TX` carries a beat exactly when `FRS` does. -/
theorem l2tx_valid_send (h : s.tx.state = T_SEND) : (l2tx s).valid = (frs s).valid := by
  rw [l2tx_send h]
  cases hv : (frs s).valid <;> rfl

/-- In `T_SEND` a beat enters on `FRS` exactly when it leaves on `L2TX`. -/
theorem xfer_frs_eq_xfer_l2tx (h : s.tx.state = T_SEND) :
    xfer (frs s).valid (txOut s).frsReady = xfer (txOut s).l2tx.valid s.curIn.l2txReady := by
  show xfer (frs s).valid (frsReady s) = xfer (l2tx s).valid s.curIn.l2txReady
  rw [frsReady_send h, l2tx_valid_send h]

/-- Settles O27, one lemma per state. -/
theorem transmitOutputs : Obligations.TransmitOutputs := by
  unfold Obligations.TransmitOutputs
  exact fun s => ⟨txOut_idle, txOut_request, txOut_await, fun h => ⟨txOut_send h, xfer_frs_eq_xfer_l2tx h⟩, txOut_drop,
    txOut_unused⟩

/-! What the transmit pipeline's table selects (30_encoding.md R117). -/

/-- The transmit pipeline's table on the registers and the inputs of the cycle. -/
theorem selects_tx (s : State) : Selects s .tx
    (if s.tx.state = T_IDLE then
      if (frs s).valid && (frs s).sop && ckDone s .tx then .txStart (txSel s) else .txIdleWait (txSel s)
    else if s.tx.state = T_REQUEST then
      if s.curIn.arqReady then .txReqAccept (txSel s) else .txReqWait (txSel s)
    else if s.tx.state = T_AWAIT then
      if s.curIn.ars.valid then
        if s.curIn.ars.failed then .txUnresolved (txSel s) else .txResolved (txSel s)
      else .txAwaitWait (txSel s)
    else if s.tx.state = T_SEND then
      if (frs s).valid && s.curIn.l2txReady then
        if (frs s).eop then .txSendEop (txSel s) else .txSendBeat (txSel s)
      else .txSendStall (txSel s)
    else if s.tx.state = T_DROP then
      if (frs s).valid then if (frs s).eop then .txDropEop (txSel s) else .txDropBeat (txSel s)
      else .txDropWait (txSel s)
    else .txIllegal (txSel s)) :=
  decode_tx (txSel s)

theorem selects_tx_idle (h : s.tx.state = T_IDLE) : Selects s .tx
    (if (frs s).valid && (frs s).sop && ckDone s .tx then .txStart (txSel s) else .txIdleWait (txSel s)) := by
  have hsel := selects_tx s
  rwa [if_pos h] at hsel

theorem selects_tx_request (h : s.tx.state = T_REQUEST) : Selects s .tx
    (if s.curIn.arqReady then .txReqAccept (txSel s) else .txReqWait (txSel s)) := by
  have hsel := selects_tx s
  rwa [h, if_neg (by decide), if_pos rfl] at hsel

theorem selects_tx_await (h : s.tx.state = T_AWAIT) : Selects s .tx
    (if s.curIn.ars.valid then
      if s.curIn.ars.failed then .txUnresolved (txSel s) else .txResolved (txSel s)
    else .txAwaitWait (txSel s)) := by
  have hsel := selects_tx s
  rwa [h, if_neg (by decide), if_neg (by decide), if_pos rfl] at hsel

theorem selects_tx_send (h : s.tx.state = T_SEND) : Selects s .tx
    (if (frs s).valid && s.curIn.l2txReady then
      if (frs s).eop then .txSendEop (txSel s) else .txSendBeat (txSel s)
    else .txSendStall (txSel s)) := by
  have hsel := selects_tx s
  rwa [h, if_neg (by decide), if_neg (by decide), if_neg (by decide), if_pos rfl] at hsel

theorem selects_tx_drop (h : s.tx.state = T_DROP) : Selects s .tx
    (if (frs s).valid then if (frs s).eop then .txDropEop (txSel s) else .txDropBeat (txSel s)
    else .txDropWait (txSel s)) := by
  have hsel := selects_tx s
  rwa [h, if_neg (by decide), if_neg (by decide), if_neg (by decide), if_neg (by decide), if_pos rfl] at hsel

/-! What an operation of the transmit pipeline leaves, given what the pipeline drives (44_tx_pipeline.md R221 to R233). -/

theorem commitTx_of_txOut {o : TxOut} (h : txOut s = o) (r : TxRegs) :
    s.commitTx r = { s with tx := r, out := { s.out with tx := o } } := by
  rw [State.commitTx, h]

/-- `TX_UNRESOLVED` writes the state register only and records the failure. -/
theorem txUnresolved_of_txOut {o : TxOut} (h : txOut s = o) : txUnresolved s =
    { s with tx := { s.tx with state := T_DROP }, out := { s.out with tx := o },
             events := s.events ++ [⟨.addressUnresolved, .TXP, s.cycle⟩] } := by
  rw [txUnresolved, commitTx_of_txOut h]
  rfl

/-- Settles O28, one part per operation. -/
theorem transmitRequestsTheAddress : Obligations.TransmitRequestsTheAddress := by
  unfold Obligations.TransmitRequestsTheAddress
  intro s
  refine ⟨fun hs hv hsop hd => ?start, fun hs h => ?wait, fun hs hr => ?accept, fun hs hr => ?hold⟩
  case start =>
    refine ⟨?_, fun _ => congrArg Host.Outcome.next (commitTx_of_txOut (txOut_idle hs) _)⟩
    simpa [hv, hsop, hd] using selects_tx_idle hs
  case wait =>
    have hstay : ((frs s).valid && (frs s).sop && ckDone s .tx) = false := by
      rwa [Bool.and_eq_false_iff, Bool.and_eq_false_iff, or_assoc]
    refine ⟨?_, fun _ => congrArg Host.Outcome.next (commitTx_of_txOut (txOut_idle hs) _)⟩
    simpa [hstay] using selects_tx_idle hs
  case accept =>
    refine ⟨?_, fun _ => congrArg Host.Outcome.next (commitTx_of_txOut (txOut_request hs) _)⟩
    simpa [hr] using selects_tx_request hs
  case hold =>
    refine ⟨?_, fun _ => congrArg Host.Outcome.next (commitTx_of_txOut (txOut_request hs) _)⟩
    simpa [hr] using selects_tx_request hs

/-- In `T_AWAIT` a response is taken, and `unreachable` tells whether one came that reports failure. -/
theorem txOut_await_of_and {b : Bool} (hs : s.tx.state = T_AWAIT) (h : (s.curIn.ars.valid && s.curIn.ars.failed) = b) :
    txOut s = { arsReady := true, unreachable := b } := by
  rw [txOut_await hs, h]

/-- Settles O29, one part per operation. -/
theorem transmitAwaitsTheAddress : Obligations.TransmitAwaitsTheAddress := by
  unfold Obligations.TransmitAwaitsTheAddress
  intro s hs
  have hsel := selects_tx_await hs
  refine ⟨fun hv hf => ?resolved, fun hv hf => ?unresolved, fun hv => ?wait⟩
  case resolved =>
    have hout := txOut_await_of_and hs (Bool.and_eq_false_iff.2 (.inr hf))
    refine ⟨?_, fun _ => congrArg Host.Outcome.next (commitTx_of_txOut hout _)⟩
    simpa [hv, hf] using hsel
  case unresolved =>
    have hout := txOut_await_of_and hs (Bool.and_eq_true_iff.2 ⟨hv, hf⟩)
    refine ⟨?_, fun _ => congrArg Host.Outcome.next (txUnresolved_of_txOut hout)⟩
    simpa [hv, hf] using hsel
  case wait =>
    have hout := txOut_await_of_and hs (Bool.and_eq_false_iff.2 (.inl hv))
    refine ⟨?_, fun _ => congrArg Host.Outcome.next (commitTx_of_txOut hout _)⟩
    simpa [hv] using hsel

/-- A byte that is sent carries its own markers and the sideband of R220. -/
theorem txOut_send_pass {e : Bool} (hs : s.tx.state = T_SEND) (hv : (frs s).valid = true) (he : (frs s).eop = e)
    (hr : s.curIn.l2txReady = true) :
    txOut s =
      { frsReady := true,
        l2tx := { valid := true, data := (frs s).data, sop := (frs s).sop, eop := e, error := false,
                  dstMac := s.tx.mac, srcMac := s.cfg.localMac, ethertype := s.cfg.ethertype } } := by
  rw [txOut_send hs, hr, if_pos hv, he]

/-- Settles O30, one part per operation. -/
theorem transmitSendsTheDatagram : Obligations.TransmitSendsTheDatagram := by
  unfold Obligations.TransmitSendsTheDatagram
  intro s hs
  have hsel := selects_tx_send hs
  refine ⟨fun hv he hr => ?beat, fun hv he hr => ?last, fun h => ?stall⟩
  case beat =>
    refine ⟨?_, fun _ => congrArg Host.Outcome.next (commitTx_of_txOut (txOut_send_pass hs hv he hr) _)⟩
    simpa [hv, he, hr] using hsel
  case last =>
    refine ⟨?_, fun _ => congrArg Host.Outcome.next (commitTx_of_txOut (txOut_send_pass hs hv he hr) _)⟩
    simpa [hv, he, hr] using hsel
  case stall =>
    have hstay : ((frs s).valid && s.curIn.l2txReady) = false := Bool.and_eq_false_iff.2 h
    refine ⟨?_, fun _ => congrArg Host.Outcome.next (commitTx_of_txOut (txOut_send hs) _)⟩
    simpa [hstay] using hsel

/-- Settles O31, one part per operation. -/
theorem transmitDropsTheDatagram : Obligations.TransmitDropsTheDatagram := by
  unfold Obligations.TransmitDropsTheDatagram
  intro s hs
  have hsel := selects_tx_drop hs
  have hout := txOut_drop hs
  refine ⟨fun hv he => ?beat, fun hv he => ?last, fun hv => ?wait⟩
  case beat =>
    refine ⟨?_, fun _ => congrArg Host.Outcome.next (commitTx_of_txOut hout _)⟩
    simpa [hv, he] using hsel
  case last =>
    refine ⟨?_, fun _ => congrArg Host.Outcome.next (commitTx_of_txOut hout _)⟩
    simpa [hv, he] using hsel
  case wait =>
    refine ⟨?_, fun _ => congrArg Host.Outcome.next (commitTx_of_txOut hout _)⟩
    simpa [hv] using hsel

end Sys2Proof.Machine
end

section
/-! SUPPORT. The receive pipeline: the test of a header and the cause of a rejection (45_rx_pipeline.md R260), what the pipeline drives in
each state (R261), what its table selects (30_encoding.md R118) and what each operation makes of that (R262 to R272). -/

namespace Sys2Proof.Machine

open Sys2Proof.Safety

variable {s : State}

/-! The header test (R260). -/

/-- `hdr_ok` is the four conditions of R260 on the fields of `G`, and nothing else. -/
theorem hdrOk_iff : hdrOk s = true ↔
    ckValue s .rx = 0x0000 ∧ version s.ex.g = 4 ∧ ihl s.ex.g = 5 ∧ dstIp s.ex.g = s.cfg.localIp := by
  simp only [hdrOk, Bool.and_eq_true, beq_iff_eq, and_assoc]

theorem rejectCause_malformed (h : version s.ex.g ≠ 4 ∨ ihl s.ex.g ≠ 5) : rejectCause s = .malformedHeader := by
  rw [rejectCause, if_pos h]

/-- For a header with the right version and length, the checksum decides the cause. -/
theorem rejectCause_wellFormed (hv : version s.ex.g = 4) (hl : ihl s.ex.g = 5) :
    rejectCause s = if ckValue s .rx ≠ 0 then .checksumMismatch else .notAddressedHere := by
  rw [rejectCause, if_neg (not_or.2 ⟨not_not.2 hv, not_not.2 hl⟩)]

/-- Settles O32: the fields of `G` are read at the offsets of R190, and the causes are tried in the order of R260. -/
theorem headerValidity : Obligations.HeaderValidity := by
  unfold Obligations.HeaderValidity
  refine fun s => ⟨hdrOk_iff, rejectCause_malformed, fun hv hl hc => ?mismatch, fun hv hl hc _ => ?elsewhere⟩
  case mismatch => rw [rejectCause_wellFormed hv hl, if_pos hc]
  case elsewhere => rw [rejectCause_wellFormed hv hl, if_neg (not_not.2 hc)]

/-! What the receive pipeline drives (R261). -/

theorem exsReady_present (h : s.rx.state = R_PRESENT) : exsReady s = rxoReady s := by
  rw [exsReady, if_pos h]

theorem exsReady_drop (h : s.rx.state = R_DROP) : exsReady s = true := by
  rw [exsReady, if_neg (by rw [h]; decide), if_pos h]

/-- Outside `R_PRESENT` and `R_DROP` no payload byte is taken. -/
theorem exsReady_other (hp : s.rx.state ≠ R_PRESENT) (hd : s.rx.state ≠ R_DROP) : exsReady s = false := by
  rw [exsReady, if_neg hp, if_neg hd]

/-- Outside `R_PRESENT` nothing is presented on `RXO`. -/
theorem rxo_other (h : s.rx.state ≠ R_PRESENT) : rxo s = {} := by
  rw [rxo, if_neg fun e => h e.1]

/-- In `R_PRESENT` a byte on `EXS` is presented with the sideband decoded from `G`. -/
theorem rxo_present (h : s.rx.state = R_PRESENT) :
    rxo s =
      if (exs s).valid then
        { valid := true, data := (exs s).data, sop := (exs s).sop, eop := (exs s).eop, error := (exs s).error,
          srcIp := be32 s.ex.g 12, protocol := s.ex.g[9], length := be16 s.ex.g 2 - 20 }
      else {} := by
  simp only [rxo, h, true_and, srcIp, protocol, byteAt, totalLength]

/-- In `R_IDLE` and in `R_CHECK` the pipeline drives nothing. -/
theorem rxOut_quiet (h : s.rx.state = R_IDLE ∨ s.rx.state = R_CHECK) : rxOut s = {} := by
  have hp : s.rx.state ≠ R_PRESENT := by obtain h | h := h <;> rw [h] <;> decide
  have hd : s.rx.state ≠ R_DROP := by obtain h | h := h <;> rw [h] <;> decide
  rw [rxOut, exsReady_other hp hd, rxo_other hp]

theorem rxOut_present (h : s.rx.state = R_PRESENT) :
    rxOut s =
      { exsReady := rxoReady s,
        rxo :=
          if (exs s).valid then
            { valid := true, data := (exs s).data, sop := (exs s).sop, eop := (exs s).eop, error := (exs s).error,
              srcIp := be32 s.ex.g 12, protocol := s.ex.g[9], length := be16 s.ex.g 2 - 20 }
          else {} } := by
  rw [rxOut, exsReady_present h, rxo_present h]

theorem rxOut_drop (h : s.rx.state = R_DROP) : rxOut s = { exsReady := true } := by
  rw [rxOut, exsReady_drop h, rxo_other (by rw [h]; decide)]

/-- In `R_PRESENT`, `RXO` carries a beat exactly when `EXS` does. -/
theorem rxo_valid_present (h : s.rx.state = R_PRESENT) : (rxo s).valid = (exs s).valid := by
  rw [rxo_present h]
  cases hv : (exs s).valid <;> rfl

/-- In `R_PRESENT` a beat enters on `EXS` exactly when it leaves on `RXO`. -/
theorem xfer_exs_eq_xfer_rxo (h : s.rx.state = R_PRESENT) :
    xfer (exs s).valid (rxOut s).exsReady = xfer (rxOut s).rxo.valid (rxoReady s) := by
  show xfer (exs s).valid (exsReady s) = xfer (rxo s).valid (rxoReady s)
  rw [exsReady_present h, rxo_valid_present h]

/-- Settles O33, one lemma per state. -/
theorem receiveOutputs : Obligations.ReceiveOutputs := by
  unfold Obligations.ReceiveOutputs
  exact fun s => ⟨rxOut_quiet, fun h => ⟨rxOut_present h, xfer_exs_eq_xfer_rxo h⟩, rxOut_drop⟩

/-! What the receive pipeline's table selects (30_encoding.md R118). -/

/-- The receive pipeline's table on the registers and the inputs of the cycle. -/
theorem selects_rx (s : State) : Selects s .rx
    (if s.rx.state = R_IDLE then
      if (exs s).valid && (exs s).sop then .rxStart (rxSel s) else .rxIdleWait (rxSel s)
    else if s.rx.state = R_CHECK then
      if ckDone s .rx then if hdrOk s then .rxAccept (rxSel s) else .rxReject (rxSel s)
      else .rxCheckWait (rxSel s)
    else if s.rx.state = R_PRESENT then
      if (exs s).valid && rxoReady s then
        if (exs s).eop then .rxPresentEop (rxSel s) else .rxPresentBeat (rxSel s)
      else .rxPresentStall (rxSel s)
    else if (exs s).valid then if (exs s).eop then .rxDropEop (rxSel s) else .rxDropBeat (rxSel s)
    else .rxDropWait (rxSel s)) :=
  decode_rx (rxSel s)

theorem selects_rx_idle (h : s.rx.state = R_IDLE) : Selects s .rx
    (if (exs s).valid && (exs s).sop then .rxStart (rxSel s) else .rxIdleWait (rxSel s)) := by
  have hsel := selects_rx s
  rwa [if_pos h] at hsel

theorem selects_rx_check (h : s.rx.state = R_CHECK) : Selects s .rx
    (if ckDone s .rx then if hdrOk s then .rxAccept (rxSel s) else .rxReject (rxSel s)
    else .rxCheckWait (rxSel s)) := by
  have hsel := selects_rx s
  rwa [h, if_neg (by decide), if_pos rfl] at hsel

theorem selects_rx_present (h : s.rx.state = R_PRESENT) : Selects s .rx
    (if (exs s).valid && rxoReady s then
      if (exs s).eop then .rxPresentEop (rxSel s) else .rxPresentBeat (rxSel s)
    else .rxPresentStall (rxSel s)) := by
  have hsel := selects_rx s
  rwa [h, if_neg (by decide), if_neg (by decide), if_pos rfl] at hsel

/-- `R_DROP` is the fourth of the four state codes, so its rows stand under no test of the state. -/
theorem selects_rx_drop (h : s.rx.state = R_DROP) : Selects s .rx
    (if (exs s).valid then if (exs s).eop then .rxDropEop (rxSel s) else .rxDropBeat (rxSel s)
    else .rxDropWait (rxSel s)) := by
  have hsel := selects_rx s
  rwa [h, if_neg (by decide), if_neg (by decide), if_neg (by decide)] at hsel

/-! What an operation of the receive pipeline leaves, given what the pipeline drives (R262 to R272). -/

theorem commitRx_of_rxOut {o : RxOut} (h : rxOut s = o) (r : RxRegs) :
    s.commitRx r = { s with rx := r, out := { s.out with rx := o } } := by
  rw [State.commitRx, h]

/-- `RX_REJECT` writes the state register and records the cause of R260, as it stands before the edge. -/
theorem rxReject_of_rxOut {o : RxOut} (h : rxOut s = o) : rxReject s =
    { s with rx := { state := R_DROP }, out := { s.out with rx := o },
             events := s.events ++ [⟨rejectCause s, .RXP, s.cycle⟩] } := by
  rw [rxReject, raise_eq, commitRx_of_rxOut h]

/-- Settles O34, one part per operation. -/
theorem receiveChecksTheHeader : Obligations.ReceiveChecksTheHeader := by
  unfold Obligations.ReceiveChecksTheHeader
  intro s
  refine ⟨fun hs hv hsop => ?start, fun hs h => ?idle, fun hs hd hok => ?accept, fun hs hd hok => ?reject,
    fun hs hd => ?wait⟩
  case start =>
    refine ⟨?_, fun _ => congrArg Host.Outcome.next (commitRx_of_rxOut (rxOut_quiet (.inl hs)) _)⟩
    simpa [hv, hsop] using selects_rx_idle hs
  case idle =>
    have hstay : ((exs s).valid && (exs s).sop) = false := Bool.and_eq_false_iff.2 h
    refine ⟨?_, fun _ => congrArg Host.Outcome.next (commitRx_of_rxOut (rxOut_quiet (.inl hs)) _)⟩
    simpa [hstay] using selects_rx_idle hs
  case accept =>
    refine ⟨?_, fun _ => congrArg Host.Outcome.next (commitRx_of_rxOut (rxOut_quiet (.inr hs)) _)⟩
    simpa [hd, hok] using selects_rx_check hs
  case reject =>
    refine ⟨?_, fun _ => congrArg Host.Outcome.next (rxReject_of_rxOut (rxOut_quiet (.inr hs)))⟩
    simpa [hd, hok] using selects_rx_check hs
  case wait =>
    refine ⟨?_, fun _ => congrArg Host.Outcome.next (commitRx_of_rxOut (rxOut_quiet (.inr hs)) _)⟩
    simpa [hd] using selects_rx_check hs

/-- A byte that is forwarded carries its own markers and error flag and the sideband of R261. -/
theorem rxOut_present_pass {e : Bool} (hs : s.rx.state = R_PRESENT) (hv : (exs s).valid = true) (he : (exs s).eop = e)
    (hr : rxoReady s = true) :
    rxOut s =
      { exsReady := true,
        rxo := { valid := true, data := (exs s).data, sop := (exs s).sop, eop := e, error := (exs s).error,
                 srcIp := be32 s.ex.g 12, protocol := s.ex.g[9], length := be16 s.ex.g 2 - 20 } } := by
  rw [rxOut_present hs, hr, if_pos hv, he]

/-- Settles O35, one part per operation. -/
theorem receivePresentsThePayload : Obligations.ReceivePresentsThePayload := by
  unfold Obligations.ReceivePresentsThePayload
  intro s hs
  have hsel := selects_rx_present hs
  refine ⟨fun hv he hr => ?beat, fun hv he hr => ?last, fun h => ?stall⟩
  case beat =>
    refine ⟨?_, fun _ => congrArg Host.Outcome.next (commitRx_of_rxOut (rxOut_present_pass hs hv he hr) _)⟩
    simpa [hv, he, hr] using hsel
  case last =>
    refine ⟨?_, fun _ => congrArg Host.Outcome.next (commitRx_of_rxOut (rxOut_present_pass hs hv he hr) _)⟩
    simpa [hv, he, hr] using hsel
  case stall =>
    have hstay : ((exs s).valid && rxoReady s) = false := Bool.and_eq_false_iff.2 h
    refine ⟨?_, fun _ => congrArg Host.Outcome.next (commitRx_of_rxOut (rxOut_present hs) _)⟩
    simpa [hstay] using hsel

/-- Settles O36, one part per operation. -/
theorem receiveDropsTheFrame : Obligations.ReceiveDropsTheFrame := by
  unfold Obligations.ReceiveDropsTheFrame
  intro s hs
  have hsel := selects_rx_drop hs
  have hout := rxOut_drop hs
  refine ⟨fun hv he => ?beat, fun hv he => ?last, fun hv => ?wait⟩
  case beat =>
    refine ⟨?_, fun _ => congrArg Host.Outcome.next (commitRx_of_rxOut hout _)⟩
    simpa [hv, he] using hsel
  case last =>
    refine ⟨?_, fun _ => congrArg Host.Outcome.next (commitRx_of_rxOut hout _)⟩
    simpa [hv, he] using hsel
  case wait =>
    refine ⟨?_, fun _ => congrArg Host.Outcome.next (commitRx_of_rxOut hout _)⟩
    simpa [hv] using hsel

end Sys2Proof.Machine
end

section
/-! SUPPORT. The multiplexer: the rotation (46_crossbar.md R304), what the multiplexer drives (R303), what its table selects
(30_encoding.md R119), what each operation makes of that (R305 to R309), and that a grant is exclusive (R315). -/

namespace Sys2Proof.Machine

open Sys2Proof.Safety

variable {s : State}

/-! The rotation (R304). -/

theorem anyReq_iff : anyReq s = true ↔ ∃ k < s.cfg.nports, (s.utxAt k).valid = true := by
  simp only [anyReq, List.any_eq_true, List.mem_range]

/-- A rotation from any start reaches every port. -/
theorem exists_rotation {n k : Nat} (g : Nat) (hk : k < n) : ∃ j < n, (g + 1 + j) % n = k := by
  have hr : (g + 1) % n < n := Nat.mod_lt _ (by omega)
  refine ⟨(k + (n - (g + 1) % n)) % n, Nat.mod_lt _ (by omega), ?_⟩
  calc (g + 1 + (k + (n - (g + 1) % n)) % n) % n
      = ((g + 1) % n + (k + (n - (g + 1) % n))) % n := by rw [Nat.add_mod_mod, Nat.mod_add_mod]
    _ = (k + n) % n := by congr 1; omega
    _ = k := by rw [Nat.add_mod_right, Nat.mod_eq_of_lt hk]

/-- The rotation is a search for the least distance at which a port requests. -/
theorem nextGrant_eq_map (s : State) (g : Nat) : nextGrant s g =
    ((List.range s.cfg.nports).find? fun j => (s.utxAt ((g + 1 + j) % s.cfg.nports)).valid).map
      fun j => (g + 1 + j) % s.cfg.nports :=
  List.find?_map ..

/-- With a request, the rotation ends at a distance before which no port requests. -/
theorem nextGrant_of_anyReq (ha : anyReq s = true) (g : Nat) :
    ∃ j < s.cfg.nports, nextGrant s g = some ((g + 1 + j) % s.cfg.nports) ∧
      (s.utxAt ((g + 1 + j) % s.cfg.nports)).valid = true ∧
      ∀ i < j, (s.utxAt ((g + 1 + i) % s.cfg.nports)).valid = false := by
  obtain ⟨k, hk, hv⟩ := anyReq_iff.1 ha
  obtain ⟨d, hd, rfl⟩ := exists_rotation g hk
  obtain ⟨j, hj⟩ := Option.isSome_iff_exists.1 <|
    (List.find?_isSome (p := fun j => (s.utxAt ((g + 1 + j) % s.cfg.nports)).valid)).2 ⟨d, List.mem_range.2 hd, hv⟩
  obtain ⟨hjv, hjn, hfirst⟩ := List.find?_range_eq_some.1 hj
  refine ⟨j, List.mem_range.1 hjn, by rw [nextGrant_eq_map, hj]; rfl, hjv, fun i hi => ?_⟩
  simpa using hfirst i hi

/-- Settles O39: the model counts the distance from the port after `g`, the statement from `g`. -/
theorem rotationGrantsTheNextRequester : Obligations.RotationGrantsTheNextRequester := by
  unfold Obligations.RotationGrantsTheNextRequester
  intro s g ha
  obtain ⟨j, hj, hnext, hv, hfirst⟩ := nextGrant_of_anyReq ha g
  have hdist : ∀ i, g + (i + 1) = g + 1 + i := fun i => by omega
  refine ⟨j + 1, by omega, hj, by rwa [hdist], by rwa [hdist], fun i h1 hi => ?_⟩
  obtain ⟨i, rfl⟩ := Nat.exists_eq_add_of_le' h1
  rw [hdist]
  exact hfirst i (by omega)

/-! What the multiplexer drives (R303). -/

theorem mo_busy (h : s.arb.busy = true) : mo s = s.utxAt s.arb.grant.index := by
  rw [mo, if_pos h]

theorem mo_free (h : s.arb.busy = false) : mo s = {} := by
  rw [mo, h, if_neg Bool.false_ne_true]

theorem utxReadyAt_busy (h : s.arb.busy = true) (k : Nat) :
    utxReadyAt s k = (k == s.arb.grant.index && moReady s) := by
  rw [utxReadyAt, h, Bool.true_and]

theorem utxReadyAt_free (h : s.arb.busy = false) (k : Nat) : utxReadyAt s k = false := by
  rw [utxReadyAt, h, Bool.false_and, Bool.false_and]

/-- No port but the granted one is ready, in any cycle. -/
theorem utxReadyAt_of_ne {k : Nat} (h : k ≠ s.arb.grant.index) : utxReadyAt s k = false := by
  rw [utxReadyAt, beq_false_of_ne h, Bool.and_false, Bool.false_and]

theorem utxReadyAt_grant (h : s.arb.busy = true) : utxReadyAt s s.arb.grant.index = moReady s := by
  rw [utxReadyAt_busy h, beq_self_eq_true, Bool.true_and]

/-- A port that exists presents its own beat, or nothing when that beat is not valid. -/
theorem utxAt_of_lt {k : Nat} (h : k < s.cfg.nports) :
    s.utxAt k = if (s.curIn.utx.getD k {}).valid then s.curIn.utx.getD k {} else {} := by
  rw [State.utxAt, if_pos h, presented]

theorem muxOut_free (h : s.arb.busy = false) :
    muxOut s = { mo := {}, utxReady := List.replicate s.cfg.nports false } := by
  rw [muxOut, mo_free h, utxReady_free h]

theorem muxOut_busy (h : s.arb.busy = true) :
    muxOut s =
      { mo := s.utxAt s.arb.grant.index
        utxReady := (List.range s.cfg.nports).map fun k => k == s.arb.grant.index && moReady s } := by
  rw [muxOut, mo_busy h, utxReady, funext (utxReadyAt_busy h)]

/-- While the framer is ready, the granted port is. -/
theorem muxOut_pass (h : s.arb.busy = true) (hr : moReady s = true) :
    muxOut s =
      { mo := s.utxAt s.arb.grant.index
        utxReady := (List.range s.cfg.nports).map fun k => k == s.arb.grant.index } := by
  simp only [muxOut_busy h, hr, Bool.and_true]

/-- Settles O38: busy, free, the ports' own beats, no beat, and the outputs as a record. -/
theorem multiplexerOutputs : Obligations.MultiplexerOutputs := by
  unfold Obligations.MultiplexerOutputs
  refine fun s => ⟨fun hb => ⟨mo_busy hb, ?transfer, fun k => ?ready⟩, fun hb => ⟨mo_free hb, utxReadyAt_free hb⟩,
    fun k => utxAt_of_lt, mo_invalid, rfl⟩
  case transfer => rw [utxReadyAt_grant hb, mo_busy hb]
  case ready =>
    split
    · next h => rw [h, utxReadyAt_grant hb]
    · next h => exact utxReadyAt_of_ne h

/-! What the multiplexer's table selects (30_encoding.md R119); for a request see `selects_xbArbGrant`. -/

/-- The multiplexer's table on the registers and the inputs of the cycle. -/
theorem selects_arb (s : State) : Selects s .arb
    (if s.arb.busy then
      if (mo s).valid && moReady s then if (mo s).eop then .xbMuxEop (arbSel s) else .xbMuxBeat (arbSel s)
      else .xbMuxStall (arbSel s)
    else if anyReq s then .xbArbGrant (arbSel s) else .xbArbIdle (arbSel s)) :=
  decode_arb (arbSel s)

theorem selects_arb_busy (h : s.arb.busy = true) : Selects s .arb
    (if (mo s).valid && moReady s then if (mo s).eop then .xbMuxEop (arbSel s) else .xbMuxBeat (arbSel s)
    else .xbMuxStall (arbSel s)) := by
  have hsel := selects_arb s
  rwa [if_pos h] at hsel

theorem selects_xbArbIdle (hb : s.arb.busy = false) (ha : anyReq s = false) :
    Selects s .arb (.xbArbIdle (arbSel s)) := by
  simpa [hb, ha] using selects_arb s

/-! What an operation of the multiplexer leaves, given what the multiplexer drives (R305 to R309). -/

theorem commitArb_of_muxOut {o : MuxOut} (h : muxOut s = o) (r : ArbRegs) :
    s.commitArb r = { s with arb := r, out := { s.out with mux := o } } := by
  rw [State.commitArb, h]

theorem xbArbGrant_of_nextGrant {k : Nat} (h : nextGrant s s.arb.grant.index = some k) :
    xbArbGrant s = s.commitArb { grant := .ofPort s.cfg k, busy := true } := by
  rw [xbArbGrant, h]; rfl

/-- Settles O40, one part per operation. -/
theorem multiplexerGrantsAndPasses : Obligations.MultiplexerGrantsAndPasses := by
  unfold Obligations.MultiplexerGrantsAndPasses
  intro s
  refine ⟨fun hb ha => ?grant, fun hb ha => ?idle, fun hb hv hr he => ?beat, fun hb hv hr he => ?last,
    fun hb h => ?stall⟩
  case grant =>
    obtain ⟨j, -, hnext, -⟩ := nextGrant_of_anyReq ha s.arb.grant.index
    refine ⟨selects_xbArbGrant hb ha, _, hnext, ofPort_index (nextGrant_some hnext).1,
      fun _ => congrArg Host.Outcome.next ?_⟩
    rw [xbArbGrant_of_nextGrant hnext, commitArb_of_muxOut (muxOut_free hb)]
  case idle =>
    exact ⟨selects_xbArbIdle hb ha, fun _ => congrArg Host.Outcome.next (commitArb_of_muxOut (muxOut_free hb) _)⟩
  case beat =>
    refine ⟨?_, fun _ => congrArg Host.Outcome.next (commitArb_of_muxOut (muxOut_pass hb hr) _)⟩
    simpa [hv, hr, he] using selects_arb_busy hb
  case last =>
    refine ⟨?_, fun _ => congrArg Host.Outcome.next (commitArb_of_muxOut (muxOut_pass hb hr) _)⟩
    simpa [hv, hr, he] using selects_arb_busy hb
  case stall =>
    have hstay : ((mo s).valid && moReady s) = false := Bool.and_eq_false_iff.2 h
    refine ⟨?_, fun _ => congrArg Host.Outcome.next (commitArb_of_muxOut (muxOut_busy hb) _)⟩
    simpa [hstay] using selects_arb_busy hb

/-! A grant is exclusive (R315 item 1, 20_memory.md R76). -/

/-- `UTX[k].ready` as it stands in the outputs; past the last port there is none. -/
theorem utxReady_getD (s : State) (k : Nat) :
    (utxReady s).getD k false = if k < s.cfg.nports then utxReadyAt s k else false := by
  by_cases h : k < s.cfg.nports <;> simp [utxReady, List.getD, h]

theorem arbNext_busy (h : s.arb.busy = true) : arbNext s =
    if (mo s).valid && moReady s && (mo s).eop then { s.arb with busy := false } else s.arb := by
  rw [arbNext, if_pos h]

/-- A busy multiplexer keeps its grant. -/
theorem arbNext_grant_busy (h : s.arb.busy = true) : (arbNext s).grant = s.arb.grant := by
  rw [arbNext_busy h]
  split <;> rfl

/-- The grant ends with the transfer of an eop beat on `MO`, and only so. -/
theorem arbNext_released_iff (h : s.arb.busy = true) :
    (arbNext s).busy = false ↔ (mo s).valid = true ∧ moReady s = true ∧ (mo s).eop = true := by
  rw [arbNext_busy h, ← and_assoc, ← Bool.and_eq_true, ← Bool.and_eq_true]
  split
  · next hx => simp [hx]
  · next hx => simp [hx, h]

/-- Settles O55: in a running cycle the outputs are those of R303 and the registers those of R307 to R309. -/
theorem grantIsExclusive : Obligations.GrantIsExclusive := by
  unfold Obligations.GrantIsExclusive
  intro s t hrun h hb
  rw [step_running hrun h, runCycle_out, runCycle_arb]
  refine ⟨mo_busy hb, arbNext_grant_busy hb, fun k hk => ?others, ?released⟩
  case others =>
    show (utxReady s).getD k false = false
    rw [utxReady_getD, utxReadyAt_of_ne hk, ite_self]
  case released =>
    show _ ↔ _ ∧ _ ∧ (utxReady s).getD s.arb.grant.index false = true
    rw [arbNext_released_iff hb, mo_busy hb, utxReady_getD, utxReadyAt_grant hb]
    refine and_congr_right fun hv => ?_
    rw [if_pos (lt_nports_of_utxAt hv), and_comm]

end Sys2Proof.Machine
end

section
/-! SUPPORT. The demultiplexer: the registry's match (46_crossbar.md R310), what the demultiplexer drives, what its table selects
(30_encoding.md R119), what each operation makes of that (R311 to R314), and that deliveries never cross (R315). -/

namespace Sys2Proof.Machine

open Sys2Proof.Safety

variable {s : State}

/-! The port match and the ready it gives (R310, 70_reset_and_hazards.md R412). -/

/-- In a registry without repeats a port is the match of its own number. -/
theorem portOf_eq_of_nodup {c : Config} {p : Byte} {m : Nat} (hd : c.proto.Nodup) (h : m < c.proto.length)
    (hp : c.proto[m] = p) : portOf c p = some m := by
  refine List.findIdx?_eq_some_iff_getElem.2 ⟨h, beq_iff_eq.2 hp, fun j hj => ?_⟩
  simp only [beq_iff_eq, ← hp, hd.getElem_inj_iff]
  omega

theorem matchProtocol_present (h : s.rx.state = R_PRESENT) : matchProtocol s = s.ex.g[9] := by
  rw [matchProtocol, if_pos h, protocol, byteAt]

theorem rxoReady_of_some {m : Nat} (h : matchedPort s = some m) : rxoReady s = s.urxReadyAt m := by
  rw [rxoReady, h]

theorem rxoReady_of_none (h : matchedPort s = none) : rxoReady s = true := by
  rw [rxoReady, h]

/-! What the demultiplexer drives (R310). -/

theorem dmxOut_of_some {m : Nat} (h : matchedPort s = some m) :
    dmxOut s =
      { rxoReady := s.urxReadyAt m
        urx := (List.range s.cfg.nports).map fun k => if k = m then rxo s else {} } := by
  rw [dmxOut, rxoReady_of_some h, urx_of_some h]

theorem dmxOut_of_none (h : matchedPort s = none) :
    dmxOut s = { rxoReady := true, urx := List.replicate s.cfg.nports {} } := by
  rw [dmxOut, rxoReady_of_none h, urx_of_none h]

/-- With a beat on `RXO`, its own protocol number picks the port. -/
theorem dmxOut_of_beat {m : Nat} {r : Bool} (hv : (rxo s).valid = true) (hm : portOf s.cfg (rxo s).protocol = some m)
    (hr : s.urxReadyAt m = r) :
    dmxOut s = { rxoReady := r, urx := (List.range s.cfg.nports).map fun k => if k = m then rxo s else {} } := by
  rw [dmxOut_of_some ((beatPort_of_valid hv).symm.trans hm), hr]

/-- Without a beat on `RXO` no user port carries one, whichever port matches. -/
theorem dmxOut_idle (h : (rxo s).valid = false) :
    dmxOut s = { rxoReady := rxoReady s, urx := List.replicate s.cfg.nports {} } := by
  have hquiet : urxAt s = fun _ => {} := funext fun k => by rw [urxAt, rxo_invalid h, ite_self]
  rw [dmxOut, urx, hquiet, List.map_const', List.length_range]

/-- Settles O41: the sideband, the wait for the packet's port, a match, and no match. -/
theorem demultiplexerOutputs : Obligations.DemultiplexerOutputs := by
  unfold Obligations.DemultiplexerOutputs
  refine fun s => ⟨matchProtocol_of_valid, matchProtocol_present, fun m hr he hm hw => ?wait,
    fun m h hd hp => ?matched, fun h => ?unmatched⟩
  case wait =>
    have hmatch : matchedPort s = some m := by rw [matchedPort, matchProtocol_present hr, hm]
    have hrxo : rxoReady s = false := (rxoReady_of_some hmatch).trans hw
    have hexs : exsReady s = false := (exsReady_present hr).trans hrxo
    exact ⟨hrxo, hexs, (l2rxReady_payload he).trans hexs⟩
  case matched =>
    have hmatch : portOf s.cfg (matchProtocol s) = some m := portOf_eq_of_nodup hd h hp
    exact ⟨hmatch, dmxOut_of_some hmatch⟩
  case unmatched =>
    have hnone : portOf s.cfg (matchProtocol s) = none := portOf_none.2 h
    exact ⟨hnone, dmxOut_of_none hnone⟩

/-! What the demultiplexer's table selects (30_encoding.md R119). -/

/-- The demultiplexer's table on the registers and the inputs of the cycle. -/
theorem selects_dmx (s : State) : Selects s .dmx
    (if (rxo s).valid then
      if mOk s then if mReady s then .xbDmxDeliver else .xbDmxStall else .xbDmxDiscard (dmxSel s)
    else .xbDmxIdle (dmxSel s)) :=
  decode_dmx (dmxSel s)

/-- With a port for the beat, that port's ready decides. -/
theorem selects_dmx_some {m : Nat} (hv : (rxo s).valid = true) (hm : portOf s.cfg (rxo s).protocol = some m) :
    Selects s .dmx (if s.urxReadyAt m then .xbDmxDeliver else .xbDmxStall) := by
  have hsel := selects_dmx s
  have hbeat : beatPort s = some m := hm
  rwa [if_pos hv, mOk, mReady, hbeat, if_pos (Option.isSome_some)] at hsel

theorem selects_dmx_none (hv : (rxo s).valid = true) (hm : portOf s.cfg (rxo s).protocol = none) :
    Selects s .dmx (.xbDmxDiscard (dmxSel s)) := by
  have hsel := selects_dmx s
  have hbeat : beatPort s = none := hm
  rwa [if_pos hv, mOk, hbeat, Option.isSome_none, if_neg Bool.false_ne_true] at hsel

theorem selects_dmx_idle (hv : (rxo s).valid = false) : Selects s .dmx (.xbDmxIdle (dmxSel s)) := by
  have hsel := selects_dmx s
  rwa [hv, if_neg Bool.false_ne_true] at hsel

/-! What an operation of the demultiplexer leaves, given what the demultiplexer drives (R311 to R314). -/

theorem commitDmx_of_dmxOut {o : DmxOut} (h : dmxOut s = o) :
    s.commitDmx = { s with out := { s.out with dmx := o } } := by
  rw [State.commitDmx, h]

/-- `XB_DMX_DISCARD` records the drop on the sop beat and on no other. -/
theorem xbDmxDiscard_of_dmxOut {o : DmxOut} (h : dmxOut s = o) : xbDmxDiscard s =
    { s with out := { s.out with dmx := o },
             events := if (rxo s).sop then s.events ++ [⟨.unregisteredProtocol, .DMX, s.cycle⟩] else s.events } := by
  rw [xbDmxDiscard, raise_eq, commitDmx_of_dmxOut h]
  split <;> rfl

/-- Settles O42, one part per operation: a beat's own protocol number picks the port that takes it. -/
theorem demultiplexerRoutes : Obligations.DemultiplexerRoutes := by
  unfold Obligations.DemultiplexerRoutes
  intro s
  refine ⟨fun m hv hm hr => ?deliver, fun m hv hm hr => ?stall, fun hv hm => ?discard, fun hv => ?idle⟩
  case deliver =>
    refine ⟨?_, congrArg Host.Outcome.next (commitDmx_of_dmxOut (dmxOut_of_beat hv hm hr))⟩
    simpa [hr] using selects_dmx_some hv hm
  case stall =>
    refine ⟨?_, congrArg Host.Outcome.next (commitDmx_of_dmxOut (dmxOut_of_beat hv hm hr))⟩
    simpa [hr] using selects_dmx_some hv hm
  case discard =>
    have hout := dmxOut_of_none ((beatPort_of_valid hv).symm.trans hm)
    exact ⟨selects_dmx_none hv hm, fun _ => congrArg Host.Outcome.next (xbDmxDiscard_of_dmxOut hout)⟩
  case idle =>
    exact ⟨selects_dmx_idle hv, fun _ => congrArg Host.Outcome.next (commitDmx_of_dmxOut (dmxOut_idle hv))⟩

/-! Deliveries never cross (R315 items 2 and 4). -/

/-- A port that carries a beat is the match of that beat's protocol number. -/
theorem matched_of_urxAt_valid {k : Nat} (h : (urxAt s k).valid = true) :
    matchedPort s = some k ∧ urxAt s k = rxo s ∧ (rxo s).valid = true := by
  unfold urxAt at h ⊢
  split at h
  · next hm => exact ⟨hm, if_pos hm, h⟩
  · cases h

/-- Only one port carries the beat. -/
theorem urxAt_of_ne {k j : Nat} (h : matchedPort s = some k) (hj : j ≠ k) : urxAt s j = {} := by
  rw [urxAt, if_neg]
  rw [h, Option.some.injEq]
  exact hj.symm

/-- `URX[k]` as it stands in the outputs; past the last port nothing matches. -/
theorem urx_getD (s : State) (k : Nat) : (urx s).getD k {} = urxAt s k := by
  by_cases h : k < s.cfg.nports
  · simp [urx, List.getD, h]
  · have hnone : matchedPort s ≠ some k := fun hm => h (portOf_some hm).1
    simp [urx, List.getD, h, urxAt, hnone]

/-- In a running cycle a presented beat stands on the port registered for its protocol number, and on no other. -/
theorem urx_delivers {k : Nat} (h : ((urx s).getD k {}).valid = true) :
    s.cfg.proto[k]? = some ((urx s).getD k {}).protocol ∧ ∀ j, j ≠ k → (urx s).getD j {} = {} := by
  simp only [urx_getD] at h ⊢
  obtain ⟨hm, hbeat, hv⟩ := matched_of_urxAt_valid h
  obtain ⟨hk, hp⟩ := portOf_some hm
  refine ⟨?_, fun j => urxAt_of_ne hm⟩
  rw [hbeat, List.getElem?_eq_getElem hk, hp, matchProtocol_of_valid hv]

/-- In a reset cycle no port carries a beat. -/
theorem zero_urx_getD (n k : Nat) : (Outputs.zero n).dmx.urx.getD k {} = {} :=
  List.getElem?_getD_replicate_default_eq ..

/-- Settles O56: a reset cycle drives 0 on every port, and a running cycle drives what R310 says. -/
theorem deliveriesNeverCross : Obligations.DeliveriesNeverCross := by
  unfold Obligations.DeliveriesNeverCross
  intro s t k _ hbuilt h hv
  obtain ⟨-, ⟨hp, -⟩ | ⟨hp, -⟩ | ⟨-, -, -, rfl⟩ | ⟨-, -, -, rfl⟩⟩ := step_cases h
  · exact absurd hbuilt hp
  · exact absurd hbuilt hp
  · rw [resetCycle_out, zero_urx_getD] at hv
    cases hv
  · rw [runCycle_out] at hv ⊢
    exact urx_delivers hv

end Sys2Proof.Machine
end

section
/-! SUPPORT. The registration of the user ports (46_crossbar.md R300 to R302). -/

namespace Sys2Proof.Machine

open Sys2Proof.Safety

/-! The longer registry (R301). -/

/-- A new number's port is the one after the last. -/
theorem portOf_append_self {c : Config} {p : Byte} (h : p ∉ c.proto) :
    portOf { c with proto := c.proto ++ [p] } p = some c.nports := by
  have hnone : c.proto.findIdx? (fun q => q == p) = none := portOf_none.2 h
  simp [portOf, List.findIdx?_append, hnone, Config.nports]

/-- A new port changes the match of no other number. -/
theorem portOf_append_of_ne {c : Config} {p q : Byte} (h : q ≠ p) :
    portOf { c with proto := c.proto ++ [p] } q = portOf c q := by
  simp [portOf, List.findIdx?_append, h.symm]

/-! The next registration (R300, R302). -/

variable {s : State} {p : Byte} {ps : List Byte}

theorem isDup_pending (hp : s.pending = p :: ps) : isDup s = true ↔ p ∈ s.cfg.proto := by
  rw [isDup, hp]
  exact List.contains_iff_mem

theorem xbRegister_pending (hp : s.pending = p :: ps) : xbRegister s =
    { s with
      cfg := { s.cfg with proto := s.cfg.proto ++ [p] }, pending := ps, events := []
      arb := { s.arb with grant := .ofPort { s.cfg with proto := s.cfg.proto ++ [p] } s.arb.grant.index } } := by
  rw [xbRegister, hp]; rfl

/-- Settles O37: a new number is appended; a repeated one leaves a refused configuration, which takes no step. -/
theorem registrationBuildsTheRegistry : Obligations.RegistrationBuildsTheRegistry := by
  unfold Obligations.RegistrationBuildsTheRegistry
  intro s p ps hp
  have hsel := selects_cfg s
  refine ⟨fun hnew => ?new, fun hold => ?repeated⟩
  case new =>
    have hdup : isDup s = false := Bool.eq_false_iff.2 fun h => hnew ((isDup_pending hp).1 h)
    rw [hdup, if_neg Bool.false_ne_true] at hsel
    exact ⟨hsel, congrArg Host.Outcome.next (xbRegister_pending hp), fun hd => List.concat_eq_append ▸ hd.concat hnew,
      portOf_append_self hnew, fun q => portOf_append_of_ne⟩
  case repeated =>
    rw [if_pos ((isDup_pending hp).2 hold)] at hsel
    exact ⟨hsel, _, rfl, rfl, step_of_fetch_error (fetch_refused rfl)⟩

end Sys2Proof.Machine
end

section
/-! SUPPORT. The clock cycle as a whole (47_top_level.md R351): which cycle a step is, and that a running cycle is its units' own
operations put together. -/

namespace Sys2Proof.Machine

open Sys2Proof.Safety

/-- One clock cycle: `RESET` or `RUN`, as `rst` says (30_encoding.md R112). -/
def clockCycle (s : State) : State := if s.curIn.rst then resetCycle s else runCycle s

/-- After the registrations a step is a clock cycle. -/
theorem step_eq_clockCycle {s t : State} (h : step s = .next t) (hp : s.pending = []) : t = clockCycle s := by
  obtain ⟨-, ⟨hn, -⟩ | ⟨hn, -⟩ | ⟨-, -, hr, rfl⟩ | ⟨-, -, hr, rfl⟩⟩ := step_cases h
  · exact absurd hp hn
  · exact absurd hp hn
  · rw [clockCycle, if_pos hr]
  · rw [clockCycle, hr, if_neg Bool.false_ne_true]

/-- Every table selects an operation, whatever its select word is (30_encoding.md R113). -/
theorem exists_selects (s : State) (t : Table) : ∃ i, Selects s t i := by
  cases t with
  | ck u => exact ⟨_, decode_ck u (ckSel s u)⟩
  | fr => exact ⟨_, selects_fr s⟩
  | ex => exact ⟨_, selects_ex s⟩
  | tx => exact ⟨_, selects_tx s⟩
  | rx => exact ⟨_, selects_rx s⟩
  | arb => exact ⟨_, selects_arb s⟩
  | dmx => exact ⟨_, selects_dmx s⟩
  | cfg => exact ⟨_, selects_cfg s⟩
  | top => exact ⟨_, selects_top s⟩

/-- A unit performs the operation it selects, from the registers and inputs before the edge and with no event recorded yet. -/
theorem exists_selects_exec (s : State) (t : Table) (hc : t ≠ .cfg) (ht : t ≠ .top) :
    ∃ i, Selects s t i ∧ exec i s.begin = .next (performUnit t s.begin) := by
  obtain ⟨i, hi⟩ := exists_selects s t
  exact ⟨i, hi, performUnit_eq_exec t s.begin i ((begin_selWord s t).symm ▸ hi) hc ht⟩

/-- A running cycle puts together what each unit performs from the same state, and drives what the outputs rules give for it. -/
theorem runCycle_eq (s : State) : runCycle s = { s with
    ckTx := (performUnit (.ck .tx) s.begin).ckTx
    ckRx := (performUnit (.ck .rx) s.begin).ckRx
    fr := (performUnit .fr s.begin).fr
    ex := (performUnit .ex s.begin).ex
    tx := (performUnit .tx s.begin).tx
    rx := (performUnit .rx s.begin).rx
    arb := (performUnit .arb s.begin).arb
    out := evaluate s
    events :=
      (performUnit (.ck .tx) s.begin).events ++ (performUnit (.ck .rx) s.begin).events ++
      (performUnit .fr s.begin).events ++ (performUnit .ex s.begin).events ++ (performUnit .tx s.begin).events ++
      (performUnit .rx s.begin).events ++ (performUnit .arb s.begin).events ++ (performUnit .dmx s.begin).events
    inputs := s.inputs.tail, seen := s.curIn, cycle := s.cycle + 1 } := by
  rw [← runCycle_out]
  rfl

/-- Settles O43: each unit's selected operation gives what the unit performs, and the cycle puts these together. -/
theorem runPerformsEveryUnit : Obligations.RunPerformsEveryUnit := by
  unfold Obligations.RunPerformsEveryUnit
  intro s
  obtain ⟨i₁, h₁⟩ := exists_selects_exec s (.ck .tx) nofun nofun
  obtain ⟨i₂, h₂⟩ := exists_selects_exec s (.ck .rx) nofun nofun
  obtain ⟨i₃, h₃⟩ := exists_selects_exec s .fr nofun nofun
  obtain ⟨i₄, h₄⟩ := exists_selects_exec s .ex nofun nofun
  obtain ⟨i₅, h₅⟩ := exists_selects_exec s .tx nofun nofun
  obtain ⟨i₆, h₆⟩ := exists_selects_exec s .rx nofun nofun
  obtain ⟨i₇, h₇⟩ := exists_selects_exec s .arb nofun nofun
  obtain ⟨i₈, h₈⟩ := exists_selects_exec s .dmx nofun nofun
  exact ⟨i₁, i₂, i₃, i₄, i₅, i₆, i₇, i₈, _, _, _, _, _, _, _, _, h₁, h₂, h₃, h₄, h₅, h₆, h₇, h₈,
    congrArg Host.Outcome.next (runCycle_eq s)⟩

end Sys2Proof.Machine
end

section
/-! SUPPORT. The two paths share nothing (47_top_level.md R347, 20_memory.md R74): what a path holds and drives after a cycle is a function
of what that path held and read before it. Each path's part of a state is cut out as a state of its own, whose other registers are those of
reset; a cycle of the part is the part of the cycle. -/

namespace Sys2Proof.Machine

open Sys2Proof.Safety

variable {s s' : State}

/-! The transmit path. -/

/-- The state with the transmit path's registers and inputs, and everything else as at reset. -/
def transmitView (s : State) : State :=
  { State.reset with
    cfg := s.cfg, ckTx := s.ckTx, fr := s.fr, tx := s.tx, arb := s.arb
    inputs := [{ rst := s.curIn.rst, utx := s.curIn.utx, l2txReady := s.curIn.l2txReady, arqReady := s.curIn.arqReady,
                 ars := s.curIn.ars }] }

theorem transmitView_eq (h : TransmitAgree s s') : transmitView s = transmitView s' := by
  simp only [transmitView, h.cfg, h.ckTx, h.fr, h.tx, h.arb, h.rst, h.utx, h.l2txReady, h.arqReady, h.ars]

/-- What the transmit path holds and drives after a cycle. -/
def transmitPart (t : State) : CkRegs × FrRegs × TxRegs × ArbRegs × MuxOut × FrOut × CkOut × TxOut :=
  (t.ckTx, t.fr, t.tx, t.arb, t.out.mux, t.out.fr, t.out.ckTx, t.out.tx)

theorem transmitPart_runCycle (s : State) : transmitPart (runCycle s) =
    (ckNext s .tx, frNext s, txNext s, arbNext s, muxOut s, frOut s, ckOut s .tx, txOut s) := by
  rw [transmitPart, runCycle_ckTx, runCycle_fr, runCycle_tx, runCycle_arb, runCycle_out]
  rfl

/-- No rule of the transmit path reads anything outside `transmitView`. -/
theorem transmitPart_clockCycle_view (s : State) :
    transmitPart (clockCycle (transmitView s)) = transmitPart (clockCycle s) := by
  have hrst : (transmitView s).curIn.rst = s.curIn.rst := rfl
  rw [clockCycle, clockCycle, hrst]
  split
  · rfl
  · rw [transmitPart_runCycle, transmitPart_runCycle]
    rfl

/-! The receive path. -/

/-- The state with the receive path's registers and inputs, and everything else as at reset. -/
def receiveView (s : State) : State :=
  { State.reset with
    cfg := s.cfg, ckRx := s.ckRx, ex := s.ex, rx := s.rx
    inputs := [{ rst := s.curIn.rst, l2rx := s.curIn.l2rx, urxReady := s.curIn.urxReady }] }

theorem receiveView_eq (h : ReceiveAgree s s') : receiveView s = receiveView s' := by
  simp only [receiveView, h.cfg, h.ckRx, h.ex, h.rx, h.rst, h.l2rx, h.urxReady]

/-- What the receive path holds and drives after a cycle. -/
def receivePart (t : State) : CkRegs × ExRegs × RxRegs × ExOut × CkOut × RxOut × DmxOut :=
  (t.ckRx, t.ex, t.rx, t.out.ex, t.out.ckRx, t.out.rx, t.out.dmx)

theorem receivePart_runCycle (s : State) : receivePart (runCycle s) =
    (ckNext s .rx, exNext s, rxNext s, exOut s, ckOut s .rx, rxOut s, dmxOut s) := by
  rw [receivePart, runCycle_ckRx, runCycle_ex, runCycle_rx, runCycle_out]
  rfl

/-- No rule of the receive path reads anything outside `receiveView`. -/
theorem receivePart_clockCycle_view (s : State) :
    receivePart (clockCycle (receiveView s)) = receivePart (clockCycle s) := by
  have hrst : (receiveView s).curIn.rst = s.curIn.rst := rfl
  rw [clockCycle, clockCycle, hrst]
  split
  · rfl
  · rw [receivePart_runCycle, receivePart_runCycle]
    rfl

/-- Settles O50: states that agree on a path have the same view of it, and the view decides the path's part of the cycle. -/
theorem pathsShareNothing : Obligations.PathsShareNothing := by
  unfold Obligations.PathsShareNothing
  intro s s' t t' hp hp' hstep hstep'
  rw [step_eq_clockCycle hstep hp, step_eq_clockCycle hstep' hp']
  refine ⟨fun h => ?transmit, fun h => ?receive⟩
  case transmit =>
    have hpart : transmitPart (clockCycle s) = transmitPart (clockCycle s') := by
      rw [← transmitPart_clockCycle_view s, transmitView_eq h, transmitPart_clockCycle_view]
    simpa only [transmitPart, Prod.mk.injEq] using hpart
  case receive =>
    have hpart : receivePart (clockCycle s) = receivePart (clockCycle s') := by
      rw [← receivePart_clockCycle_view s, receiveView_eq h, receivePart_clockCycle_view]
    simpa only [receivePart, Prod.mk.injEq] using hpart

end Sys2Proof.Machine
end

section
/-! SUPPORT. The forward pass reads no ready input (47_top_level.md R350, 70_reset_and_hazards.md R405). -/

namespace Sys2Proof.Machine

/-- The cycle with every ready input 0. -/
def withoutReady (s : State) : State :=
  { s with inputs := [{ s.curIn with urxReady := [], l2txReady := false, arqReady := false }] }

variable (s : State)

theorem mo_withoutReady : mo (withoutReady s) = mo s := rfl
theorem frs_withoutReady : frs (withoutReady s) = frs s := rfl
theorem l2tx_withoutReady : l2tx (withoutReady s) = l2tx s := rfl
theorem arq_withoutReady : arq (withoutReady s) = arq s := rfl
theorem unreachable_withoutReady : unreachable (withoutReady s) = unreachable s := rfl
theorem exs_withoutReady : exs (withoutReady s) = exs s := rfl
theorem rxo_withoutReady : rxo (withoutReady s) = rxo s := rfl
theorem urx_withoutReady : urx (withoutReady s) = urx s := rfl
theorem ckOut_withoutReady (u : CkInst) : ckOut (withoutReady s) u = ckOut s u := rfl

/-- The outputs of a cycle with every ready signal left out: beats, requests, `unreachable` and the checksum outputs. -/
def forwardOutputs (o : Outputs) : Outputs :=
  { mux := { mo := o.mux.mo }, fr := { frs := o.fr.frs }, ckTx := o.ckTx, ckRx := o.ckRx
    tx := { l2tx := o.tx.l2tx, arq := o.tx.arq, unreachable := o.tx.unreachable }
    ex := { exs := o.ex.exs }, rx := { rxo := o.rx.rxo }, dmx := { urx := o.dmx.urx } }

theorem forwardOutputs_evaluate : forwardOutputs (evaluate s) =
    { mux := { mo := mo s }, fr := { frs := frs s }, ckTx := ckOut s .tx, ckRx := ckOut s .rx
      tx := { l2tx := l2tx s, arq := arq s, unreachable := unreachable s }
      ex := { exs := exs s }, rx := { rxo := rxo s }, dmx := { urx := urx s } } := rfl

/-- The ready inputs decide nothing of the forward pass. -/
theorem forwardOutputs_clockCycle_withoutReady :
    forwardOutputs (clockCycle (withoutReady s)).out = forwardOutputs (clockCycle s).out := by
  have hrst : (withoutReady s).curIn.rst = s.curIn.rst := rfl
  rw [clockCycle, clockCycle, hrst]
  split
  · rfl
  · rw [runCycle_out, runCycle_out, forwardOutputs_evaluate, forwardOutputs_evaluate, mo_withoutReady, frs_withoutReady,
      l2tx_withoutReady, arq_withoutReady, unreachable_withoutReady, exs_withoutReady, rxo_withoutReady,
      urx_withoutReady, ckOut_withoutReady, ckOut_withoutReady]

/-- Settles O51: without their ready inputs the two cycles are the same. -/
theorem validDoesNotDependOnReady : Obligations.ValidDoesNotDependOnReady := by
  unfold Obligations.ValidDoesNotDependOnReady
  intro s t t' i is ur l a hp hstep hstep'
  have hsame : withoutReady { s with inputs := i :: is } =
      withoutReady { s with inputs := { i with urxReady := ur, l2txReady := l, arqReady := a } :: is } := rfl
  have hforward : forwardOutputs t.out = forwardOutputs t'.out := by
    rw [step_eq_clockCycle hstep hp, step_eq_clockCycle hstep' hp, ← forwardOutputs_clockCycle_withoutReady, hsame,
      forwardOutputs_clockCycle_withoutReady]
  simp only [forwardOutputs, Outputs.mk.injEq, MuxOut.mk.injEq, FrOut.mk.injEq, TxOut.mk.injEq, ExOut.mk.injEq,
    RxOut.mk.injEq, DmxOut.mk.injEq, true_and, and_true] at hforward
  obtain ⟨hmo, hfrs, hckTx, hckRx, ⟨hl2tx, harq, hunreachable⟩, hexs, hrxo, hurx⟩ := hforward
  exact ⟨hmo, hfrs, hckTx, hckRx, hl2tx, harq, hunreachable, hexs, hrxo, hurx⟩

end Sys2Proof.Machine
end

section
/-! SUPPORT. A stream that is not valid is all 0, and every user port has its beat and its ready (47_top_level.md R349,
70_reset_and_hazards.md R402); for `MO` and `RXO` see `mo_invalid` and `rxo_invalid`. -/

namespace Sys2Proof.Machine

variable {s : State}

/-! Each stream is a beat with `valid = 1` or 0 on every signal, so without a beat it is the latter. -/

theorem frs_invalid (h : (frs s).valid = false) : frs s = {} := by
  unfold frs at *
  split_ifs at h ⊢ <;> rfl

theorem l2tx_invalid (h : (l2tx s).valid = false) : l2tx s = {} := by
  unfold l2tx at *
  split_ifs at h ⊢
  rfl

theorem arq_invalid (h : (arq s).valid = false) : arq s = {} := by
  unfold arq at *
  split_ifs at h ⊢
  rfl

theorem exs_invalid (h : (exs s).valid = false) : exs s = {} := by
  unfold exs at *
  split_ifs at h ⊢
  rfl

theorem urxAt_invalid {k : Nat} (h : (urxAt s k).valid = false) : urxAt s k = {} := by
  unfold urxAt at *
  split_ifs at h ⊢
  · exact rxo_invalid h
  · rfl

/-- The outputs of a block of `n` user ports in which every stream without a beat is 0 (R349). -/
structure InvalidAreZero (n : Nat) (o : Outputs) : Prop where
  mo : o.mux.mo.valid = false → o.mux.mo = {}
  frs : o.fr.frs.valid = false → o.fr.frs = {}
  l2tx : o.tx.l2tx.valid = false → o.tx.l2tx = {}
  arq : o.tx.arq.valid = false → o.tx.arq = {}
  exs : o.ex.exs.valid = false → o.ex.exs = {}
  rxo : o.rx.rxo.valid = false → o.rx.rxo = {}
  urx : ∀ b ∈ o.dmx.urx, b.valid = false → b = {}
  urxLength : o.dmx.urx.length = n
  utxReadyLength : o.mux.utxReady.length = n

theorem invalidAreZero_zero (n : Nat) : InvalidAreZero n (Outputs.zero n) where
  mo _ := rfl
  frs _ := rfl
  l2tx _ := rfl
  arq _ := rfl
  exs _ := rfl
  rxo _ := rfl
  urx _ hb _ := List.eq_of_mem_replicate hb
  urxLength := List.length_replicate
  utxReadyLength := List.length_replicate

theorem invalidAreZero_evaluate (s : State) : InvalidAreZero s.cfg.nports (evaluate s) where
  mo := mo_invalid
  frs := frs_invalid
  l2tx := l2tx_invalid
  arq := arq_invalid
  exs := exs_invalid
  rxo := rxo_invalid
  urx b hb := by
    obtain ⟨k, -, rfl⟩ := List.mem_map.1 hb
    exact urxAt_invalid
  urxLength := by simp [evaluate, dmxOut, urx]
  utxReadyLength := by simp [evaluate, muxOut, utxReady]

/-- Settles O53: the outputs of a reset cycle are 0, and those of a running cycle follow the outputs rules. -/
theorem invalidStreamsAreZero : Obligations.InvalidStreamsAreZero := by
  unfold Obligations.InvalidStreamsAreZero
  intro s t hp hstep
  have hreset : s.curIn.rst = true → t.out = Outputs.zero s.cfg.nports := fun hr => by
    rw [step_eq_clockCycle hstep hp, clockCycle, if_pos hr, resetCycle_out]
  have hz : InvalidAreZero s.cfg.nports t.out := by
    by_cases hr : s.curIn.rst = true
    · rw [hreset hr]
      exact invalidAreZero_zero _
    · rw [step_eq_clockCycle hstep hp, clockCycle, if_neg hr, runCycle_out]
      exact invalidAreZero_evaluate s
  exact ⟨hz.mo, hz.frs, hz.l2tx, hz.arq, hz.exs, hz.rxo, hz.urx, hz.urxLength, hz.utxReadyLength, hreset⟩

end Sys2Proof.Machine
end

section
/-! SUPPORT. The records of a cycle (60_exceptions.md R379, R380): each unit records at most one event, under its own name and with the
number of the cycle; from a sound state none is `IllegalState`, and the couplings of 70_reset_and_hazards.md R413 leave each path one unit
that can record. With the first of these, `AddressUnresolved` is `unreachable` (R382, R374). -/

namespace Sys2Proof.Machine

open Sys2Proof.Safety

/-! What one unit records in one cycle. -/

/-- At most one record, with the name of the unit and the number of the cycle. -/
def RaisedBy (u : UnitName) (n : Nat) (es : List Event) : Prop := es.length ≤ 1 ∧ ∀ e ∈ es, e.unit = u ∧ e.cycle = n

@[simp] theorem raisedBy_nil (u : UnitName) (n : Nat) : RaisedBy u n [] := by
  simp [RaisedBy]

@[simp] theorem raisedBy_singleton (c : Cause) (u : UnitName) (n : Nat) : RaisedBy u n [⟨c, u, n⟩] := by
  simp [RaisedBy]

/-- A choice of units takes a unit's records or leaves them, as it takes the unit. -/
theorem RaisedBy.filter {u : UnitName} {n : Nat} {es : List Event} (h : RaisedBy u n es) (p : UnitName → Bool) :
    es.filter (fun e => p e.unit) = if p u then es else [] := by
  split
  · next hp => exact List.filter_eq_self.2 fun e he => by rw [(h.2 e he).1, hp]
  · next hp => exact List.filter_eq_nil_iff.2 fun e he => by rwa [(h.2 e he).1]

section

variable (s : State)

theorem ckRaised_raisedBy (u : CkInst) : RaisedBy (ckUnit u) s.cycle (ckRaised s u) := by
  unfold ckRaised
  split <;> simp

theorem frRaised_raisedBy : RaisedBy .FR s.cycle (frRaised s) := by
  unfold frRaised
  split_ifs <;> simp

theorem exRaised_raisedBy : RaisedBy .EX s.cycle (exRaised s) := by
  unfold exRaised
  split_ifs <;> simp

theorem txRaised_raisedBy : RaisedBy .TXP s.cycle (txRaised s) := by
  unfold txRaised
  split_ifs <;> simp

theorem rxRaised_raisedBy : RaisedBy .RXP s.cycle (rxRaised s) := by
  unfold rxRaised
  split_ifs <;> simp

theorem dmxRaised_raisedBy : RaisedBy .DMX s.cycle (dmxRaised s) := by
  unfold dmxRaised
  split <;> simp

/-- The records of the chosen units in a running cycle. -/
theorem runCycle_events_filter (p : UnitName → Bool) : (runCycle s).events.filter (fun e => p e.unit) =
    (if p .CK_TX then ckRaised s .tx else []) ++ (if p .CK_RX then ckRaised s .rx else []) ++
    (if p .FR then frRaised s else []) ++ (if p .EX then exRaised s else []) ++ (if p .TXP then txRaised s else []) ++
    (if p .RXP then rxRaised s else []) ++ (if p .DMX then dmxRaised s else []) := by
  have hckTx : RaisedBy .CK_TX s.cycle (ckRaised s .tx) := ckRaised_raisedBy s .tx
  have hckRx : RaisedBy .CK_RX s.cycle (ckRaised s .rx) := ckRaised_raisedBy s .rx
  simp only [runCycle_events, List.filter_append, hckTx.filter, hckRx.filter, (frRaised_raisedBy s).filter,
    (exRaised_raisedBy s).filter, (txRaised_raisedBy s).filter, (rxRaised_raisedBy s).filter,
    (dmxRaised_raisedBy s).filter]

/-- Every record of a running cycle has its number. -/
theorem runCycle_events_cycle {e : Event} (he : e ∈ (runCycle s).events) : e.cycle = s.cycle := by
  simp only [runCycle_events, List.mem_append] at he
  obtain (((((he | he) | he) | he) | he) | he) | he := he
  · exact ((ckRaised_raisedBy s .tx).2 e he).2
  · exact ((ckRaised_raisedBy s .rx).2 e he).2
  · exact ((frRaised_raisedBy s).2 e he).2
  · exact ((exRaised_raisedBy s).2 e he).2
  · exact ((txRaised_raisedBy s).2 e he).2
  · exact ((rxRaised_raisedBy s).2 e he).2
  · exact ((dmxRaised_raisedBy s).2 e he).2

end

variable {s : State}

/-! Which states of a unit record nothing (R413). -/

/-- The counter of a sound state's engine is in range, and at its last batch the engine is done. -/
theorem ckRaised_of_sound (hs : Sound s) (u : CkInst) : ckRaised s u = [] := by
  have hle : (s.ck u).cnt.toNat ≤ numBatches s.cfg u := by
    cases u with
    | tx => exact hs.inRange.ckTx
    | rx => exact hs.inRange.ckRx
  unfold ckRaised ckDone
  rw [if_neg]
  simp only [Bool.and_eq_true, Bool.not_eq_true', beq_eq_false_iff_ne, decide_eq_true_eq]
  rintro ⟨⟨-, hne⟩, hge⟩
  exact hne (le_antisymm hle hge)

theorem frIllegal_of_sound (hs : Sound s) : frIllegal s.fr = false := by
  have hidx := hs.inRange.frIdx
  simp [frIllegal, hs.inRange.frState, show ¬20 ≤ s.fr.idx.toNat by omega]

theorem exIllegal_of_sound (hs : Sound s) : exIllegal s.ex = false := by
  obtain h | h | h := hs.ex_cases
  · exact exIllegal_of_idle h
  · obtain ⟨hpos, hle⟩ := hs.inRange.exCnt h
    exact exIllegal_of_header h hpos (by omega)
  · exact exIllegal_of_payload h

theorem frRaised_of_busy (hs : Sound s) (h : s.fr.state ≠ F_IDLE) : frRaised s = [] := by
  rw [frRaised, if_neg h, frIllegal_of_sound hs, if_neg Bool.false_ne_true]

theorem txRaised_of_ne_await (hs : Sound s) (h : s.tx.state ≠ T_AWAIT) : txRaised s = [] := by
  rw [txRaised, if_neg h, if_neg hs.inRange.txState.not_gt]

theorem exRaised_of_payload (h : s.ex.state = E_PAYLOAD) : exRaised s = [] := by
  rw [exRaised, exIllegal_of_payload h, h]
  rfl

theorem rxRaised_of_ne_check (h : s.rx.state ≠ R_CHECK) : rxRaised s = [] := if_neg h

theorem dmxRaised_of_ne_present (h : s.rx.state ≠ R_PRESENT) : dmxRaised s = [] := by
  have hv : (rxo s).valid = false := Bool.eq_false_iff.2 fun e => h (rxo_valid e).1
  rw [dmxRaised, hv]
  rfl

/-! No record of a sound state's cycle is `IllegalState`. -/

theorem rejectCause_ne_illegalState (s : State) : rejectCause s ≠ .illegalState := by
  unfold rejectCause
  split_ifs <;> decide

theorem runCycle_cause_ne_illegalState (hs : Sound s) {e : Event} (he : e ∈ (runCycle s).events) :
    e.cause ≠ .illegalState := by
  simp only [runCycle_events, List.mem_append, ckRaised_of_sound hs, List.not_mem_nil, false_or] at he
  obtain (((he | he) | he) | he) | he := he
  · rw [frRaised, frIllegal_of_sound hs] at he
    split_ifs at he <;> simp_all
  · rw [exRaised, exIllegal_of_sound hs] at he
    split_ifs at he <;> simp_all
  · rw [txRaised, if_neg hs.inRange.txState.not_gt] at he
    split_ifs at he <;> simp_all
  · have hc := rejectCause_ne_illegalState s
    rw [rxRaised] at he
    split_ifs at he <;> simp_all
  · rw [dmxRaised] at he
    split_ifs at he <;> simp_all

/-! One record on each path (R379). -/

/-- While the framer can record, the transmit pipeline is idle. -/
theorem transmit_events_length (hs : Sound s) :
    ((runCycle s).events.filter (fun e => onTransmitPath e.unit)).length ≤ 1 := by
  have hpath : (runCycle s).events.filter (fun e => onTransmitPath e.unit) = frRaised s ++ txRaised s := by
    rw [runCycle_events_filter]
    simp [onTransmitPath, ckRaised_of_sound hs]
  rw [hpath]
  by_cases hf : s.fr.state = F_IDLE
  · have ht : s.tx.state ≠ T_AWAIT := by rw [hs.coupled.frIdle hf]; decide
    rw [txRaised_of_ne_await hs ht, List.append_nil]
    exact (frRaised_raisedBy s).1
  · rw [frRaised_of_busy hs hf]
    exact (txRaised_raisedBy s).1

/-- While the extractor can record, the receive pipeline is idle; the latter checks a header or presents a packet, never both. -/
theorem receive_events_length (hs : Sound s) :
    ((runCycle s).events.filter (fun e => onReceivePath e.unit)).length ≤ 1 := by
  have hpath : (runCycle s).events.filter (fun e => onReceivePath e.unit) = exRaised s ++ (rxRaised s ++ dmxRaised s) := by
    rw [runCycle_events_filter]
    simp [onReceivePath, ckRaised_of_sound hs]
  rw [hpath]
  by_cases hidle : s.rx.state = R_IDLE
  · have hcheck : s.rx.state ≠ R_CHECK := by rw [hidle]; decide
    have hpresent : s.rx.state ≠ R_PRESENT := by rw [hidle]; decide
    rw [rxRaised_of_ne_check hcheck, dmxRaised_of_ne_present hpresent]
    simpa using (exRaised_raisedBy s).1
  rw [exRaised_of_payload (hs.payload_of_rx_busy hidle), List.nil_append]
  by_cases hcheck : s.rx.state = R_CHECK
  · have hpresent : s.rx.state ≠ R_PRESENT := by rw [hcheck]; decide
    rw [dmxRaised_of_ne_present hpresent, List.append_nil]
    exact (rxRaised_raisedBy s).1
  · rw [rxRaised_of_ne_check hcheck]
    exact (dmxRaised_raisedBy s).1

/-- Settles O58, by the kinds of step: a registration records at most one event, of no path; a reset records none. -/
theorem oneEventPerPath : Obligations.OneEventPerPath := by
  unfold Obligations.OneEventPerPath
  intro s t hs h
  obtain ⟨-, ⟨-, -, e⟩ | ⟨-, -, e⟩ | ⟨-, -, -, rfl⟩ | ⟨-, -, -, rfl⟩⟩ := step_cases h
  · obtain rfl : xbRegisterDup s = t := Host.Outcome.next.inj e
    simp [xbRegisterDup_events, onTransmitPath, onReceivePath]
  · obtain rfl : xbRegister s = t := Host.Outcome.next.inj e
    simp [xbRegister_events]
  · simp
  · exact ⟨transmit_events_length hs, receive_events_length hs, fun e he =>
      ⟨runCycle_cause_ne_illegalState hs he, runCycle_events_cycle s he⟩⟩

/-! `unreachable` (R220, R226, R374, R382). -/

theorem unreachable_iff :
    unreachable s = true ↔ s.tx.state = T_AWAIT ∧ s.curIn.ars.valid = true ∧ s.curIn.ars.failed = true := by
  simp only [unreachable, Bool.and_eq_true, beq_iff_eq, and_assoc]

/-- A failing response in `T_AWAIT` is what `TX_UNRESOLVED`'s row asks for, and no other row selects that operation. -/
theorem unreachable_iff_selects : unreachable s = true ↔ Selects s .tx (.txUnresolved (txSel s)) := by
  refine ⟨fun h => ?_, fun h => ?_⟩
  · obtain ⟨hstate, hvalid, hfailed⟩ := unreachable_iff.1 h
    have hsel := selects_tx_await hstate
    rwa [if_pos hvalid, if_pos hfailed] at hsel
  · have hop := Except.ok.inj ((selects_tx s).symm.trans h)
    split_ifs at hop with _ _ _ _ hstate hvalid hfailed
    exact unreachable_iff.2 ⟨hstate, hvalid, hfailed⟩

/-- `AddressUnresolved` is what the transmit pipeline records in these cycles. -/
theorem addressUnresolved_mem_txRaised :
    (⟨.addressUnresolved, .TXP, s.cycle⟩ : Event) ∈ txRaised s ↔ unreachable s = true := by
  by_cases h : s.tx.state = T_AWAIT
  · rw [txRaised, if_pos h, unreachable_await h]
    split <;> simp_all
  · rw [txRaised, if_neg h, unreachable_other h]
    split <;> simp

/-- No other unit's record carries the transmit pipeline's name. -/
theorem addressUnresolved_mem_runCycle :
    (⟨.addressUnresolved, .TXP, s.cycle⟩ : Event) ∈ (runCycle s).events ↔ unreachable s = true := by
  have htxp := runCycle_events_filter s (· == .TXP)
  simp only [beq_self_eq_true, if_true, reduceCtorEq, beq_iff_eq, if_false, List.nil_append, List.append_nil] at htxp
  rw [← addressUnresolved_mem_txRaised, ← htxp, List.mem_filter]
  simp

/-- The failing response drops the packet. -/
theorem txNext_of_unreachable (h : unreachable s = true) : (txNext s).state = T_DROP := by
  obtain ⟨hstate, hvalid, hfailed⟩ := unreachable_iff.1 h
  simp [txNext, hstate, hvalid, hfailed, T_IDLE, T_REQUEST, T_AWAIT]

/-- A reset cycle drives 0 (R402). -/
theorem clockCycle_unreachable (s : State) : (clockCycle s).out.tx.unreachable = (!s.curIn.rst && unreachable s) := by
  rw [clockCycle]
  split
  · next hr => rw [hr]; rfl
  · next hr => rw [runCycle_out, Bool.eq_false_iff.2 hr]; rfl

/-- Settles O54: a reset cycle drives 0 and records nothing, a running one drives R220's signal; after a drop no response is awaited. -/
theorem unreachableIsOneCycle : Obligations.UnreachableIsOneCycle := by
  unfold Obligations.UnreachableIsOneCycle
  intro s t hp h
  obtain rfl := step_eq_clockCycle h hp
  rw [clockCycle_unreachable]
  cases hr : s.curIn.rst with
  | true =>
    have hreset : clockCycle s = resetCycle s := if_pos hr
    simp [hreset]
  | false =>
    have hrun : clockCycle s = runCycle s := if_neg (Bool.eq_false_iff.1 hr)
    rw [hrun, Bool.not_false, Bool.true_and]
    refine ⟨unreachable_iff_selects.trans (and_iff_right rfl).symm, addressUnresolved_mem_runCycle.symm, fun hu => ?_⟩
    have hdrop : (runCycle s).tx.state = T_DROP := by rw [runCycle_tx, txNext_of_unreachable hu]
    have hquiet : unreachable (runCycle s) = false := unreachable_other (by rw [hdrop]; decide)
    exact ⟨hdrop, fun v hv => by rw [step_eq_clockCycle hv hp, clockCycle_unreachable, hquiet, Bool.and_false]⟩

end Sys2Proof.Machine
end

section
/-! SUPPORT. The transport's error flag (60_exceptions.md R383, 44_tx_pipeline.md R235): what carries it, and that nothing else of a cycle
reads it. -/

namespace Sys2Proof.Machine

open Sys2Proof.Safety

variable {s : State}

/-! A delivered beat is the `L2RX` byte of its cycle, and no sent beat has an error flag. -/

theorem l2tx_error (s : State) : (l2tx s).error = false := by
  unfold l2tx
  split <;> rfl

theorem exs_carries (h : (exs s).valid = true) :
    (exs s).error = s.curIn.l2rx.error ∧ (exs s).data = s.curIn.l2rx.data := by
  obtain ⟨hp, hv, -⟩ := exs_valid h
  rw [exs, if_pos ⟨hp, hv⟩]
  exact ⟨rfl, rfl⟩

theorem rxo_carries (h : (rxo s).valid = true) :
    (rxo s).error = s.curIn.l2rx.error ∧ (rxo s).data = s.curIn.l2rx.data := by
  have hb := rxo_valid h
  rw [rxo, if_pos hb]
  exact exs_carries hb.2

theorem urx_carries {k : Nat} (h : ((urx s).getD k {}).valid = true) :
    ((urx s).getD k {}).error = s.curIn.l2rx.error ∧ ((urx s).getD k {}).data = s.curIn.l2rx.data := by
  rw [urx_getD] at h ⊢
  obtain ⟨-, hbeat, hv⟩ := matched_of_urxAt_valid h
  rw [hbeat]
  exact rxo_carries hv

/-! The cycle with another error flag: the beats' `error` signals differ, and nothing else. -/

/-- The state in whose next cycle the `L2RX` beat has the error flag `e`. -/
def withErrorFlag (s : State) (e : Bool) : State :=
  { s with inputs := { s.curIn with l2rx := { s.curIn.l2rx with error := e } } :: s.inputs.tail }

variable (s) (e : Bool)

@[simp] theorem withErrorFlag_ex : (withErrorFlag s e).ex = s.ex := rfl
@[simp] theorem withErrorFlag_rx : (withErrorFlag s e).rx = s.rx := rfl
@[simp] theorem withErrorFlag_l2rx : (withErrorFlag s e).curIn.l2rx = { s.curIn.l2rx with error := e } := rfl

theorem exs_withErrorFlag : exs (withErrorFlag s e) = { exs s with error := (exs s).valid && e } := by
  by_cases h : s.ex.state = E_PAYLOAD ∧ s.curIn.l2rx.valid = true <;> simp [exs, h]

theorem rxo_withErrorFlag : rxo (withErrorFlag s e) = { rxo s with error := (rxo s).valid && e } := by
  by_cases h : s.rx.state = R_PRESENT ∧ (exs s).valid = true <;> simp [rxo, exs_withErrorFlag, h]

theorem rxNext_withErrorFlag : rxNext (withErrorFlag s e) = rxNext s := by
  rw [rxNext, rxNext, exs_withErrorFlag]
  rfl

theorem dmxRaised_withErrorFlag : dmxRaised (withErrorFlag s e) = dmxRaised s := by
  rw [dmxRaised, dmxRaised, mOk, mOk, beatPort, beatPort, rxo_withErrorFlag]
  rfl

theorem runCycle_events_withErrorFlag : (runCycle (withErrorFlag s e)).events = (runCycle s).events := by
  rw [runCycle_events, runCycle_events, dmxRaised_withErrorFlag]
  rfl

/-- Every register after a cycle, and its events. -/
def registersAndEvents (t : State) : CkRegs × CkRegs × FrRegs × ExRegs × TxRegs × RxRegs × ArbRegs × List Event :=
  (t.ckTx, t.ckRx, t.fr, t.ex, t.tx, t.rx, t.arb, t.events)

theorem registersAndEvents_runCycle : registersAndEvents (runCycle s) =
    (ckNext s .tx, ckNext s .rx, frNext s, exNext s, txNext s, rxNext s, arbNext s, (runCycle s).events) := by
  rw [registersAndEvents, runCycle_ckTx, runCycle_ckRx, runCycle_fr, runCycle_ex, runCycle_tx, runCycle_rx, runCycle_arb]

/-- The other rules do not even read the streams that carry the flag. -/
theorem registersAndEvents_clockCycle_withErrorFlag :
    registersAndEvents (clockCycle (withErrorFlag s e)) = registersAndEvents (clockCycle s) := by
  have hrst : (withErrorFlag s e).curIn.rst = s.curIn.rst := rfl
  rw [clockCycle, clockCycle, hrst]
  split
  · rfl
  · rw [registersAndEvents_runCycle, registersAndEvents_runCycle, rxNext_withErrorFlag, runCycle_events_withErrorFlag]
    rfl

/-- Settles O57: a reset cycle drives 0, and in a running one the flag only passes. -/
theorem errorFlagPassesUnchanged : Obligations.ErrorFlagPassesUnchanged := by
  unfold Obligations.ErrorFlagPassesUnchanged
  intro s t hp h
  obtain rfl := step_eq_clockCycle h hp
  refine ⟨?sent, fun k hv => ?delivered, fun i is e t' hi h' => ?registers⟩
  case sent =>
    rw [clockCycle]
    split
    · rfl
    · rw [runCycle_out]
      exact l2tx_error s
  case delivered =>
    unfold clockCycle at *
    split at hv
    · rw [resetCycle_out, zero_urx_getD] at hv
      cases hv
    · next hr =>
      rw [runCycle_out] at hv
      rw [if_neg hr, runCycle_out]
      exact urx_carries hv
  case registers =>
    have hflag : ({ s with inputs := { i with l2rx := { i.l2rx with error := e } } :: is } : State) = withErrorFlag s e := by
      simp [withErrorFlag, State.curIn, hi]
    rw [hflag] at h'
    have hsame := registersAndEvents_clockCycle_withErrorFlag s e
    rw [← step_eq_clockCycle h' hp] at hsame
    simpa only [registersAndEvents, Prod.mk.injEq] using hsame

end Sys2Proof.Machine
end

section
/-! SUPPORT. Every step keeps a state sound (70_reset_and_hazards.md R413): what the registers of each unit can become in a running cycle,
from that the ranges of 10_state.md, and from the handshakes between two units the coupling invariants. -/

namespace Sys2Proof.Machine

open Sys2Proof.Safety

variable {s : State}

/-! What a running cycle can make of a unit's registers, each move with the state it starts from and the conditions the invariants rest
on. -/

/-- The framer keeps its registers, loads a header, emits a header byte, or passes the last payload byte (42_framer.md R163 to R172). -/
inductive FrMove (s : State) : FrRegs → Prop where
  | keep : FrMove s s.fr
  | load (hidle : s.fr.state = F_IDLE) (hvalid : (mo s).valid = true) :
    FrMove s { state := F_HEADER, idx := 0, h := assemble s.cfg (mo s).dstIp (mo s).protocol (mo s).length }
  | byte (hheader : s.fr.state = F_HEADER) (hidx : s.fr.idx ≠ 19) :
    FrMove s { s.fr with idx := s.fr.idx + 1 }
  | lastByte (hheader : s.fr.state = F_HEADER) :
    FrMove s { s.fr with state := F_PAYLOAD }
  | finish (hpayload : s.fr.state = F_PAYLOAD) (hvalid : (mo s).valid = true) (hready : frsReady s = true)
      (heop : (mo s).eop = true) :
    FrMove s { s.fr with state := F_IDLE }

/-- The extractor keeps its registers, stores a header byte, gives up a runt, or passes a payload byte (43_extractor.md R192 to R203). -/
inductive ExMove (s : State) : ExRegs → Prop where
  | keep : ExMove s s.ex
  | start (hidle : s.ex.state = E_IDLE) :
    ExMove s { s.ex with g := putByte s.ex.g 0 s.curIn.l2rx.data, cnt := 1, state := E_HEADER }
  | byte (hheader : s.ex.state = E_HEADER) (hcnt : s.ex.cnt ≠ 19) :
    ExMove s { s.ex with g := storeByte s.ex.g s.ex.cnt s.curIn.l2rx.data, cnt := s.ex.cnt + 1 }
  | lastByte (hheader : s.ex.state = E_HEADER) :
    ExMove s { s.ex with g := putByte s.ex.g 19 s.curIn.l2rx.data, first := true, state := E_PAYLOAD }
  | runt (hheader : s.ex.state = E_HEADER) :
    ExMove s { s.ex with g := storeByte s.ex.g s.ex.cnt s.curIn.l2rx.data, state := E_IDLE }
  | pass (hpayload : s.ex.state = E_PAYLOAD) : ExMove s { s.ex with first := false }
  | finish (hpayload : s.ex.state = E_PAYLOAD) (hvalid : s.curIn.l2rx.valid = true) (hready : exsReady s = true)
      (heop : s.curIn.l2rx.eop = true) :
    ExMove s { s.ex with first := false, state := E_IDLE }

/-- The transmit pipeline keeps its registers, starts a resolution, has its request accepted or answered, or ends a datagram
(44_tx_pipeline.md R221 to R234). -/
inductive TxMove (s : State) : TxRegs → Prop where
  | keep : TxMove s s.tx
  | start (hidle : s.tx.state = T_IDLE) (hsop : (frs s).sop = true) (hdone : ckDone s .tx = true) :
    TxMove s { s.tx with reqIp := be32 s.fr.h 16, state := T_REQUEST }
  | accept (hrequest : s.tx.state = T_REQUEST) : TxMove s { s.tx with state := T_AWAIT }
  | unresolved (hawait : s.tx.state = T_AWAIT) : TxMove s { s.tx with state := T_DROP }
  | resolved (hawait : s.tx.state = T_AWAIT) : TxMove s { s.tx with mac := s.curIn.ars.mac, state := T_SEND }
  | finish (hleaving : s.tx.state = T_SEND ∨ s.tx.state = T_DROP) : TxMove s { s.tx with state := T_IDLE }

/-- The receive pipeline keeps its register, starts a check, accepts or rejects a checked header, or ends a frame (45_rx_pipeline.md R262
to R272). -/
inductive RxMove (s : State) : RxRegs → Prop where
  | keep : RxMove s s.rx
  | start (hidle : s.rx.state = R_IDLE) : RxMove s { state := R_CHECK }
  | accept (hcheck : s.rx.state = R_CHECK) (hdone : ckDone s .rx = true) : RxMove s { state := R_PRESENT }
  | reject (hcheck : s.rx.state = R_CHECK) (hdone : ckDone s .rx = true) : RxMove s { state := R_DROP }
  | finish (hbusy : s.rx.state ≠ R_IDLE) : RxMove s { state := R_IDLE }

theorem frNext_move (s : State) : FrMove s (frNext s) := by
  unfold frNext
  split_ifs with hi hload hh hr hlast hill hp hpass
  · exact .load hi (Bool.and_eq_true_iff.1 hload).1
  · exact .keep
  · exact .lastByte hh
  · exact .keep
  · exact .byte hh (by simpa using hlast)
  · exact .keep
  · simp only [Bool.and_eq_true] at hpass
    obtain ⟨⟨hv, hr⟩, he⟩ := hpass
    exact .finish hp hv hr he
  · exact .keep
  · exact .keep

theorem exNext_move (s : State) : ExMove s (exNext s) := by
  unfold exNext
  split_ifs with hi hstart hh hv hlast hill he hp hpass he
  · exact .start hi
  · exact .keep
  · exact .lastByte hh
  · exact .keep
  · exact .runt hh
  · exact .byte hh (by simpa [he] using hlast)
  · exact .keep
  · obtain ⟨hv, hr⟩ := Bool.and_eq_true_iff.1 hpass
    exact .finish hp hv hr he
  · exact .pass hp
  · exact .keep
  · exact .keep

theorem txNext_move (s : State) : TxMove s (txNext s) := by
  unfold txNext
  split_ifs with hi hstart hq ha hw hv hf hsend hsent hdrop hdropped
  · simp only [Bool.and_eq_true] at hstart
    obtain ⟨⟨-, hsop⟩, hd⟩ := hstart
    exact .start hi hsop hd
  · exact .keep
  · exact .accept hq
  · exact .keep
  · exact .unresolved hw
  · exact .resolved hw
  · exact .keep
  · exact .finish (.inl hsend)
  · exact .keep
  · exact .finish (.inr hdrop)
  · exact .keep
  · exact .keep

theorem rxNext_move (s : State) : RxMove s (rxNext s) := by
  unfold rxNext
  split_ifs with hi hstart hc hd hok
  · exact .start hi
  · exact .keep
  · exact .accept hc hd
  · exact .reject hc hd
  · exact .keep
  · exact .finish hi
  · exact .keep
  · exact .finish hi
  · exact .keep

/-! The ranges (10_state.md R24 to R37). -/

/-- Counting one batch more stays within `CK.N`, for which the counter has room. -/
theorem ckNext_cnt_le {u : CkInst} (hl : s.cfg.legal = true) (h : (s.ck u).cnt.toNat ≤ numBatches s.cfg u) :
    (ckNext s u).cnt.toNat ≤ numBatches s.cfg u := by
  have hN := numBatches_le hl u
  unfold ckNext
  split_ifs with hr hc hlt
  · exact Nat.zero_le _
  · have hnext : ((s.ck u).cnt + 1).toNat = (s.ck u).cnt.toNat + 1 := by bv_omega
    exact hnext ▸ hlt
  · exact h
  · exact h

theorem FrMove.inRange {r : FrRegs} (hm : FrMove s r) (hs : Sound s) :
    r.state ≠ 0b11#2 ∧ r.idx.toNat ≤ 19 ∧ be16 r.h 10 = 0 := by
  have hidx := hs.inRange.frIdx
  have hck := hs.inRange.frChecksum
  cases hm with
  | keep => exact ⟨hs.inRange.frState, hidx, hck⟩
  | load => exact ⟨show F_HEADER ≠ 0b11#2 by decide, Nat.zero_le _, be16_assemble_checksum ..⟩
  | byte hheader hne =>
    have hnext : (s.fr.idx + 1).toNat ≤ 19 := by bv_omega
    exact ⟨hs.inRange.frState, hnext, hck⟩
  | lastByte => exact ⟨show F_PAYLOAD ≠ 0b11#2 by decide, hidx, hck⟩
  | finish => exact ⟨show F_IDLE ≠ 0b11#2 by decide, hidx, hck⟩

theorem ExMove.inRange {r : ExRegs} (hm : ExMove s r) (hs : Sound s) :
    r.state ≠ 0b11#2 ∧ (r.state = E_HEADER → 1 ≤ r.cnt.toNat ∧ r.cnt.toNat ≤ 19) := by
  have hstate := hs.inRange.exState
  have hcnt := hs.inRange.exCnt
  cases hm with
  | keep => exact ⟨hstate, hcnt⟩
  | start => exact ⟨show E_HEADER ≠ 0b11#2 by decide, fun _ => show 1 ≤ 1 ∧ 1 ≤ 19 by decide⟩
  | byte hheader hne =>
    obtain ⟨hpos, hle⟩ := hcnt hheader
    exact ⟨hstate, fun _ => by bv_omega⟩
  | lastByte => exact ⟨show E_PAYLOAD ≠ 0b11#2 by decide, fun e => absurd e (show E_PAYLOAD ≠ E_HEADER by decide)⟩
  | runt => exact ⟨show E_IDLE ≠ 0b11#2 by decide, fun e => absurd e (show E_IDLE ≠ E_HEADER by decide)⟩
  | pass => exact ⟨hstate, hcnt⟩
  | finish => exact ⟨show E_IDLE ≠ 0b11#2 by decide, fun e => absurd e (show E_IDLE ≠ E_HEADER by decide)⟩

theorem TxMove.inRange {r : TxRegs} (hm : TxMove s r) (hs : Sound s) : r.state.toNat ≤ 4 := by
  cases hm with
  | keep => exact hs.inRange.txState
  | start => exact show T_REQUEST.toNat ≤ 4 by decide
  | accept => exact show T_AWAIT.toNat ≤ 4 by decide
  | unresolved => exact show T_DROP.toNat ≤ 4 by decide
  | resolved => exact show T_SEND.toNat ≤ 4 by decide
  | finish => exact show T_IDLE.toNat ≤ 4 by decide

/-- A new grant has the width of R36 and names a port that requests. -/
theorem arbNext_grant_inRange (hs : Sound s) :
    (arbNext s).grant.width = grantWidth s.cfg ∧
      ((arbNext s).grant.index < s.cfg.nports ∨ s.cfg.nports = 0 ∧ (arbNext s).grant.index = 0) := by
  have hkeep := And.intro hs.inRange.grantBits hs.inRange.grant
  unfold arbNext
  split_ifs with hb hpass ha
  · exact hkeep
  · exact hkeep
  · cases hn : nextGrant s s.arb.grant.index with
    | none => exact hkeep
    | some k =>
      have hk := (nextGrant_some hn).1
      exact ⟨rfl, .inl ((ofPort_index hk).symm ▸ hk)⟩
  · exact hkeep

theorem inRange_runCycle (hs : Sound s) (hl : s.cfg.legal = true) : InRange (runCycle s) := by
  obtain ⟨hfrState, hfrIdx, hfrChecksum⟩ := (frNext_move s).inRange hs
  obtain ⟨hexState, hexCnt⟩ := (exNext_move s).inRange hs
  obtain ⟨hgrantBits, hgrant⟩ := arbNext_grant_inRange hs
  exact {
    ckTx := by rw [runCycle_ckTx]; exact ckNext_cnt_le (u := .tx) hl hs.inRange.ckTx
    ckRx := by rw [runCycle_ckRx]; exact ckNext_cnt_le (u := .rx) hl hs.inRange.ckRx
    frState := by rwa [runCycle_fr]
    frIdx := by rwa [runCycle_fr]
    frChecksum := by rwa [runCycle_fr]
    exState := by rwa [runCycle_ex]
    exCnt := by rwa [runCycle_ex]
    txState := by rw [runCycle_tx]; exact (txNext_move s).inRange hs
    grantBits := by rwa [runCycle_arb]
    grant := by rwa [runCycle_arb]
    registry := hs.inRange.registry }

/-! A unit's registers after a running cycle, state by state. -/

theorem frNext_payload (h : s.fr.state = F_PAYLOAD) :
    frNext s = if (mo s).valid && frsReady s && (mo s).eop then { s.fr with state := F_IDLE } else s.fr := by
  rw [frNext, if_neg (by rw [h]; decide), if_neg (by rw [h]; decide), if_pos h]

theorem exNext_payload (h : s.ex.state = E_PAYLOAD) :
    exNext s =
      if s.curIn.l2rx.valid && exsReady s then
        if s.curIn.l2rx.eop then { s.ex with first := false, state := E_IDLE } else { s.ex with first := false }
      else s.ex := by
  rw [exNext, if_neg (by rw [h]; decide), if_neg (by rw [h]; decide), if_pos h]

theorem txNext_send (h : s.tx.state = T_SEND) :
    txNext s = if (frs s).valid && s.curIn.l2txReady && (frs s).eop then { s.tx with state := T_IDLE } else s.tx := by
  rw [txNext, if_neg (by rw [h]; decide), if_neg (by rw [h]; decide), if_neg (by rw [h]; decide), if_pos h]

theorem txNext_drop (h : s.tx.state = T_DROP) :
    txNext s = if (frs s).valid && (frs s).eop then { s.tx with state := T_IDLE } else s.tx := by
  rw [txNext, if_neg (by rw [h]; decide), if_neg (by rw [h]; decide), if_neg (by rw [h]; decide),
    if_neg (by rw [h]; decide), if_pos h]

theorem rxNext_present (h : s.rx.state = R_PRESENT) :
    rxNext s = if (exs s).valid && rxoReady s && (exs s).eop then { state := R_IDLE } else s.rx := by
  rw [rxNext, if_neg (by rw [h]; decide), if_neg (by rw [h]; decide), if_pos h]

theorem rxNext_drop (h : s.rx.state = R_DROP) :
    rxNext s = if (exs s).valid && (exs s).eop then { state := R_IDLE } else s.rx := by
  rw [rxNext, if_neg (by rw [h]; decide), if_neg (by rw [h]; decide), if_neg (by rw [h]; decide)]

/-! Where a beat is taken, and what a unit that is not heard keeps (20_memory.md R66). -/

/-- `FRS` is taken only into a datagram that is sent or dropped. -/
theorem frsReady_cases (h : frsReady s = true) :
    (s.tx.state = T_SEND ∧ s.curIn.l2txReady = true) ∨ s.tx.state = T_DROP := by
  unfold frsReady at h
  split_ifs at h with hsend hdrop
  · exact .inl ⟨hsend, h⟩
  · exact .inr hdrop

/-- `EXS` is taken only from a frame that is presented or dropped. -/
theorem exsReady_cases (h : exsReady s = true) :
    (s.rx.state = R_PRESENT ∧ rxoReady s = true) ∨ s.rx.state = R_DROP := by
  unfold exsReady at h
  split_ifs at h with hpresent hdrop
  · exact .inl ⟨hpresent, h⟩
  · exact .inr hdrop

/-- Only a granted port's beat stands on `MO`. -/
theorem arb_busy_of_mo_valid (h : (mo s).valid = true) : s.arb.busy = true := by
  by_contra hfree
  rw [mo_free (Bool.eq_false_iff.2 hfree)] at h
  cases h

/-- A framer in a packet keeps its registers while `FRS` is not ready. -/
theorem frNext_of_not_ready (hb : s.fr.state ≠ F_IDLE) (hr : frsReady s = false) : frNext s = s.fr := by
  simp [frNext, hb, hr]

/-- An idle transmit pipeline with an idle framer stays idle. -/
theorem txNext_of_idle (hf : s.fr.state = F_IDLE) (ht : s.tx.state = T_IDLE) : txNext s = s.tx := by
  simp [txNext, ht, frs_idle hf]

/-- A receive pipeline stays idle until the extractor has a whole header. -/
theorem rxNext_of_idle (he : s.ex.state ≠ E_PAYLOAD) (hr : s.rx.state = R_IDLE) : rxNext s = s.rx := by
  simp [rxNext, hr, exs, he]

/-- The eop beat that leaves on `FRS` ends the packet in the transmit pipeline. -/
theorem txNext_of_eop (hr : frsReady s = true) (hv : (frs s).valid = true) (he : (frs s).eop = true) :
    (txNext s).state = T_IDLE := by
  obtain ⟨hsend, hready⟩ | hdrop := frsReady_cases hr
  · simp [txNext_send hsend, hv, hready, he]
  · simp [txNext_drop hdrop, hv, he]

/-- The eop beat that leaves on `EXS` ends the packet in the receive pipeline. -/
theorem rxNext_of_eop (hr : exsReady s = true) (hv : (exs s).valid = true) (he : (exs s).eop = true) :
    (rxNext s).state = R_IDLE := by
  obtain ⟨hpresent, hready⟩ | hdrop := exsReady_cases hr
  · simp [rxNext_present hpresent, hv, hready, he]
  · simp [rxNext_drop hdrop, hv, he]

/-- The eop beat that leaves on `MO` ends the packet in the framer. -/
theorem frNext_of_eop (hr : moReady s = true) (hv : (mo s).valid = true) (he : (mo s).eop = true) :
    (frNext s).state = F_IDLE := by
  unfold moReady at hr
  split_ifs at hr with hi hp
  · have hsop : (mo s).sop = false := by simpa using hr
    simp [frNext, hi, hsop]
  · simp [frNext_payload hp, hv, hr, he]

/-- An engine that is done and not reset is done after the cycle. -/
theorem ckDone_runCycle {u : CkInst} (hr : ckResetIn s u = false) (hd : ckDone s u = true) :
    ckDone (runCycle s) u = true := by
  have hck : (runCycle s).ck u = s.ck u := by
    cases u with
    | tx => exact (runCycle_ckTx s).trans (ckNext_done .tx hr hd)
    | rx => exact (runCycle_ckRx s).trans (ckNext_done .rx hr hd)
  rw [ckDone, hck, runCycle_cfg]
  exact hd

/-! The coupling invariants (70_reset_and_hazards.md R413), each about two units in one cycle. -/

/-- Item 1: the framer ends a packet only together with the transmit pipeline. -/
theorem FrMove.tx_idle {r : FrRegs} (hm : FrMove s r) (hs : Sound s) (hr : r.state = F_IDLE) :
    (txNext s).state = T_IDLE := by
  cases hm with
  | keep =>
    have ht := hs.coupled.frIdle hr
    rw [txNext_of_idle hr ht, ht]
  | load => exact absurd hr (show F_HEADER ≠ F_IDLE by decide)
  | byte hheader => exact absurd (hheader.symm.trans hr) (by decide)
  | lastByte => exact absurd hr (show F_PAYLOAD ≠ F_IDLE by decide)
  | finish hpayload hvalid hready heop =>
    have hfrs : frs s = { valid := true, data := (mo s).data, sop := false, eop := (mo s).eop } := by
      rw [frs_payload hpayload, if_pos hvalid]
    exact txNext_of_eop hready (by rw [hfrs]) (by rw [hfrs]; exact heop)

/-- Item 2 up to the end of the datagram: a transmit pipeline that is busy after the cycle was so before, or starts on header byte 0 with
the checksum done. -/
theorem TxMove.checked {r : TxRegs} (hm : TxMove s r) (hs : Sound s) (hr : r.state ≠ T_IDLE) :
    ckDone s .tx = true ∧ s.fr.state ≠ F_IDLE := by
  have hbusy (h : s.tx.state ≠ T_IDLE) : ckDone s .tx = true ∧ s.fr.state ≠ F_IDLE :=
    ⟨hs.coupled.txChecked h, mt hs.coupled.frIdle h⟩
  cases hm with
  | keep => exact hbusy hr
  | start hidle hsop hdone => exact ⟨hdone, by rw [(frs_sop hsop).1]; decide⟩
  | accept hrequest => exact hbusy (by rw [hrequest]; decide)
  | unresolved hawait => exact hbusy (by rw [hawait]; decide)
  | resolved hawait => exact hbusy (by rw [hawait]; decide)
  | finish => exact absurd rfl hr

/-- Item 2: a resolution begins on header byte 0, and until its end nothing is taken from `FRS`. -/
theorem TxMove.resolving {r : TxRegs} (hm : TxMove s r) (hs : Sound s) (hr : r.state = T_REQUEST ∨ r.state = T_AWAIT) :
    s.fr.state = F_HEADER ∧ s.fr.idx = 0 ∧ frsReady s = false := by
  have hwait (h : s.tx.state = T_REQUEST ∨ s.tx.state = T_AWAIT) :
      s.fr.state = F_HEADER ∧ s.fr.idx = 0 ∧ frsReady s = false := by
    obtain ⟨hheader, hidx, -⟩ := hs.coupled.resolving h
    refine ⟨hheader, hidx, frsReady_other ?_ ?_⟩ <;> obtain h | h := h <;> rw [h] <;> decide
  cases hm with
  | keep => exact hwait hr
  | start hidle hsop =>
    obtain ⟨hheader, hidx⟩ := frs_sop hsop
    exact ⟨hheader, hidx, frsReady_other (by rw [hidle]; decide) (by rw [hidle]; decide)⟩
  | accept hrequest => exact hwait (.inl hrequest)
  | unresolved => exact absurd hr (show ¬(T_DROP = T_REQUEST ∨ T_DROP = T_AWAIT) by decide)
  | resolved => exact absurd hr (show ¬(T_SEND = T_REQUEST ∨ T_SEND = T_AWAIT) by decide)
  | finish => exact absurd hr (show ¬(T_IDLE = T_REQUEST ∨ T_IDLE = T_AWAIT) by decide)

/-- Item 3: the extractor leaves the payload phase only together with the receive pipeline. -/
theorem ExMove.rx_idle {r : ExRegs} (hm : ExMove s r) (hs : Sound s) (hr : r.state = E_IDLE ∨ r.state = E_HEADER) :
    (rxNext s).state = R_IDLE := by
  have hbuffering (h : s.ex.state = E_IDLE ∨ s.ex.state = E_HEADER) : (rxNext s).state = R_IDLE := by
    have hrx := hs.coupled.exBuffering h
    rw [rxNext_of_idle (by obtain h | h := h <;> rw [h] <;> decide) hrx, hrx]
  cases hm with
  | keep => exact hbuffering hr
  | start hidle => exact hbuffering (.inl hidle)
  | byte hheader => exact hbuffering (.inr hheader)
  | lastByte hheader => exact hbuffering (.inr hheader)
  | runt hheader => exact hbuffering (.inr hheader)
  | pass => exact hbuffering hr
  | finish hpayload hvalid hready heop =>
    have hexs : (exs s).valid = true := by rw [exs_valid_payload hpayload, hvalid]
    obtain ⟨-, -, heq, -⟩ := exs_valid hexs
    exact rxNext_of_eop hready hexs (heq.trans heop)

/-- Item 4: the framer takes a packet only from a granted port. -/
theorem FrMove.granted {r : FrRegs} (hm : FrMove s r) (hs : Sound s) (hr : r.state ≠ F_IDLE) : s.arb.busy = true := by
  cases hm with
  | keep => exact hs.coupled.frBusy hr
  | load hidle hvalid => exact arb_busy_of_mo_valid hvalid
  | byte hheader => exact hs.coupled.frBusy (by rw [hheader]; decide)
  | lastByte hheader => exact hs.coupled.frBusy (by rw [hheader]; decide)
  | finish => exact absurd rfl hr

/-- Item 4: the grant of a packet ends with the packet's eop beat and no sooner. -/
theorem arbNext_busy_of_frNext_busy (hs : Sound s) (h : (frNext s).state ≠ F_IDLE) : (arbNext s).busy = true := by
  by_contra hreleased
  have hb := (frNext_move s).granted hs h
  obtain ⟨hv, hr, he⟩ := (arbNext_released_iff hb).1 (Bool.eq_false_iff.2 hreleased)
  exact h (frNext_of_eop hr hv he)

/-- Item 5: a header is accepted or rejected only once its checksum is done. -/
theorem RxMove.checked {r : RxRegs} (hm : RxMove s r) (hs : Sound s) (hr : r.state = R_PRESENT ∨ r.state = R_DROP) :
    ckDone s .rx = true ∧ s.rx.state ≠ R_IDLE := by
  cases hm with
  | keep => exact ⟨hs.coupled.rxChecked hr, by obtain h | h := hr <;> rw [h] <;> decide⟩
  | start => exact absurd hr (by decide)
  | accept hcheck hdone => exact ⟨hdone, by rw [hcheck]; decide⟩
  | reject hcheck hdone => exact ⟨hdone, by rw [hcheck]; decide⟩
  | finish => exact absurd hr (by decide)

theorem coupled_runCycle (hs : Sound s) : Coupled (runCycle s) where
  frIdle := by
    rw [runCycle_fr, runCycle_tx]
    exact (frNext_move s).tx_idle hs
  resolving := by
    rw [runCycle_fr, runCycle_tx]
    intro h
    obtain ⟨hheader, hidx, hready⟩ := (txNext_move s).resolving hs h
    have hne : (txNext s).state ≠ T_IDLE := by obtain h | h := h <;> rw [h] <;> decide
    obtain ⟨hd, hb⟩ := (txNext_move s).checked hs hne
    rw [frNext_of_not_ready hb hready]
    exact ⟨hheader, hidx, ckDone_runCycle (ckResetIn_tx_eq_false.2 hb) hd⟩
  txChecked := by
    rw [runCycle_tx]
    intro h
    obtain ⟨hd, hb⟩ := (txNext_move s).checked hs h
    exact ckDone_runCycle (ckResetIn_tx_eq_false.2 hb) hd
  exBuffering := by
    rw [runCycle_ex, runCycle_rx]
    exact (exNext_move s).rx_idle hs
  frBusy := by
    rw [runCycle_fr, runCycle_arb]
    exact arbNext_busy_of_frNext_busy hs
  rxChecked := by
    rw [runCycle_rx]
    intro h
    obtain ⟨hd, hb⟩ := (rxNext_move s).checked hs h
    exact ckDone_runCycle (ckResetIn_rx_eq_false.2 hb) hd

/-! The step. -/

/-- A refused registration writes no register. -/
theorem sound_xbRegisterDup (hs : Sound s) : Sound (xbRegisterDup s) := by
  obtain ⟨⟨⟩, ⟨⟩⟩ := hs
  constructor <;> constructor <;> assumption

/-- In the width of the longer registry the grant register has room for the ports there were, and for the new one. -/
theorem ofPort_append_index {c : Config} {p : Byte} {k : Nat} (h : k ≤ c.nports) :
    (GrantReg.ofPort { c with proto := c.proto ++ [p] } k).index = k :=
  ofPort_index (by simp only [Config.nports, List.length_append, List.length_singleton] at h ⊢; omega)

/-- A registration lengthens the registry by a new number; the grant, in its new width, names the same port. -/
theorem sound_xbRegister {p : Byte} {ps : List Byte} (hs : Sound s) (hp : s.pending = p :: ps) (hd : isDup s = false) :
    Sound (xbRegister s) := by
  obtain ⟨hr, hc⟩ := hs
  have hnew : p ∉ s.cfg.proto := fun h => Bool.eq_false_iff.1 hd ((isDup_pending hp).2 h)
  have hgrant : s.arb.grant.index ≤ s.cfg.nports := by
    obtain h | ⟨-, h⟩ := hr.grant <;> omega
  have hports : s.cfg.nports < (s.cfg.proto ++ [p]).length := by simp [Config.nports]
  rw [xbRegister_pending hp]
  exact {
    inRange :=
      { hr with
        grantBits := rfl
        grant := .inl (by rw [ofPort_append_index hgrant]; exact hgrant.trans_lt hports)
        registry := List.concat_eq_append ▸ hr.registry.concat hnew }
    coupled := { hc with } }

/-- Settles O46, by the kinds of step: a registration leaves the traffic registers alone, a reset cycle leads to the reset values, and a
running cycle keeps the ranges and the couplings. -/
theorem soundIsKept : Obligations.SoundIsKept := by
  unfold Obligations.SoundIsKept
  intro s t hs h
  obtain ⟨-, ⟨-, -, e⟩ | ⟨hp, hd, e⟩ | ⟨-, hl, -, rfl⟩ | ⟨-, hl, -, rfl⟩⟩ := step_cases h
  · obtain rfl : xbRegisterDup s = t := Host.Outcome.next.inj e
    exact sound_xbRegisterDup hs
  · obtain rfl : xbRegister s = t := Host.Outcome.next.inj e
    obtain ⟨p, ps, hcons⟩ := List.exists_cons_of_ne_nil hp
    exact sound_xbRegister hs hcons hd
  · exact sound_of_resetRegisters hl rfl
  · exact ⟨inRange_runCycle hs hl, coupled_runCycle hs⟩

end Sys2Proof.Machine
end

section
/-! SUPPORT. The block holds its beats until they transfer (70_reset_and_hazards.md R404): in a cycle in which nothing is taken from a
stream, the units before it keep their registers, so they drive the same beat again once the environment presents its own again. -/

namespace Sys2Proof.Machine

open Sys2Proof.Safety

variable {s : State}

/-! The beats the environment holds. -/

/-- The environment's duty between two running cycles: a beat on `UTX[k]` or `L2RX` that was not taken is presented again. -/
theorem held_inputs (h : holdsUntilTransfer (runCycle s) (runCycle (runCycle s)) = true) :
    (∀ k < s.cfg.nports, (s.curIn.utx.getD k {}).valid = true → utxReadyAt s k = false →
      (runCycle s).curIn.utx.getD k {} = s.curIn.utx.getD k {}) ∧
    (s.curIn.l2rx.valid = true → l2rxReady s = false → (runCycle s).curIn.l2rx = s.curIn.l2rx) := by
  simp only [holdsUntilTransfer, runCycle_seen, runCycle_out, Bool.and_eq_true, List.all_eq_true, List.mem_range] at h
  obtain ⟨⟨hutx, hl2rx⟩, -⟩ := h
  refine ⟨fun k hk hv hr => ?_, fun hv hr => ?_⟩
  · have hready : (evaluate s).mux.utxReady.getD k false = false := by
      show (utxReady s).getD k false = false
      rw [utxReady_getD, if_pos hk, hr]
    simpa only [hv, hready, Bool.not_true, Bool.false_or, beq_iff_eq] using hutx k hk
  · have hready : (evaluate s).ex.l2rxReady = false := hr
    simpa only [hv, hready, Bool.not_true, Bool.false_or, beq_iff_eq] using hl2rx

/-- A beat that waits on `UTX[k]` is there again. -/
theorem utxAt_held (h : holdsUntilTransfer (runCycle s) (runCycle (runCycle s)) = true) {k : Nat}
    (hv : (s.utxAt k).valid = true) (hr : utxReadyAt s k = false) : (runCycle s).utxAt k = s.utxAt k := by
  have hk := lt_nports_of_utxAt hv
  have hbeat : (s.curIn.utx.getD k {}).valid = true := by
    rw [State.utxAt, if_pos hk] at hv
    obtain ⟨hb, -⟩ | ⟨-, hb⟩ := presented_cases (s.curIn.utx.getD k {})
    · exact hb
    · rw [hb] at hv
      cases hv
  rw [State.utxAt, State.utxAt, runCycle_cfg, (held_inputs h).1 k hk hbeat hr]

/-! The transmit path (44_tx_pipeline.md R220, 42_framer.md R162, 46_crossbar.md R303). -/

/-- A request that is not accepted is repeated. -/
theorem arq_held (hv : (arq s).valid = true) (hr : s.curIn.arqReady = false) : arq (runCycle s) = arq s := by
  have hrequest : s.tx.state = T_REQUEST := by
    by_contra hne
    rw [arq_other hne] at hv
    cases hv
  have hidle : s.tx.state ≠ T_IDLE := by rw [hrequest]; decide
  rw [arq, arq, runCycle_tx, txNext, if_neg hidle, if_pos hrequest, hr, if_neg Bool.false_ne_true]

/-- A beat that waits on `MO` is there again. -/
theorem mo_held (h : holdsUntilTransfer (runCycle s) (runCycle (runCycle s)) = true) (hv : (mo s).valid = true)
    (hr : moReady s = false) : mo (runCycle s) = mo s := by
  have hb := arb_busy_of_mo_valid hv
  have harb : arbNext s = s.arb := by rw [arbNext_busy hb, hr, Bool.and_false, Bool.false_and, if_neg Bool.false_ne_true]
  rw [mo_busy hb] at hv ⊢
  rw [mo, runCycle_arb, harb, if_pos hb]
  exact utxAt_held h hv (by rw [utxReadyAt_grant hb, hr])

/-- Once the checksum is done, a beat that waits on `FRS` is there again. -/
theorem frs_held (h : holdsUntilTransfer (runCycle s) (runCycle (runCycle s)) = true) (hv : (frs s).valid = true)
    (hd : ckDone s .tx = true) (hr : frsReady s = false) : frs (runCycle s) = frs s := by
  have hb : s.fr.state ≠ F_IDLE := by
    intro hi
    rw [frs_idle hi] at hv
    cases hv
  have hfr : (runCycle s).fr = s.fr := (runCycle_fr s).trans (frNext_of_not_ready hb hr)
  have hck : (runCycle s).ckTx = s.ckTx := (runCycle_ckTx s).trans (ckNext_done .tx (ckResetIn_tx_eq_false.2 hb) hd)
  by_cases hp : s.fr.state = F_PAYLOAD
  · have hmo := mo_held h ((frs_valid_payload hp).symm.trans hv) ((moReady_payload hp).trans hr)
    rw [frs_payload hp, frs_payload ((congrArg FrRegs.state hfr).trans hp), hmo]
  · have hbyte : headerByte (runCycle s) = headerByte s := by
      funext i hi
      rw [headerByte, headerByte, ckValue, ckValue, ck_tx, ck_tx, hck, hfr]
    simp only [frs, hfr, hp, if_false, hbyte]

/-- A beat that waits on `L2TX` is there again. -/
theorem l2tx_held (hs : Sound s) (h : holdsUntilTransfer (runCycle s) (runCycle (runCycle s)) = true)
    (hv : (l2tx s).valid = true) (hr : s.curIn.l2txReady = false) : l2tx (runCycle s) = l2tx s := by
  have hsend : s.tx.state = T_SEND := by
    by_contra hne
    rw [l2tx_other hne] at hv
    cases hv
  have hd : ckDone s .tx = true := hs.coupled.txChecked (by rw [hsend]; decide)
  have hfrs := frs_held h ((l2tx_valid_send hsend).symm.trans hv) hd ((frsReady_send hsend).trans hr)
  have htx : (runCycle s).tx = s.tx := by
    rw [runCycle_tx, txNext_send hsend, hr, Bool.and_false, Bool.false_and, if_neg Bool.false_ne_true]
  rw [l2tx, l2tx, hfrs, htx, runCycle_cfg]

/-! The receive path (43_extractor.md R191, 45_rx_pipeline.md R261, 46_crossbar.md R310). -/

/-- A beat that waits on `URX[k]` waits on `RXO`, `EXS` and `L2RX`. -/
theorem l2rx_waits {k : Nat} (hv : (urxAt s k).valid = true) (hr : s.urxReadyAt k = false) :
    s.rx.state = R_PRESENT ∧ s.ex.state = E_PAYLOAD ∧ s.curIn.l2rx.valid = true ∧ rxoReady s = false ∧
      exsReady s = false := by
  obtain ⟨hm, -, hrxo⟩ := matched_of_urxAt_valid hv
  obtain ⟨hpresent, hexs⟩ := rxo_valid hrxo
  obtain ⟨hpayload, hl2rx, -⟩ := exs_valid hexs
  have hready : rxoReady s = false := (rxoReady_of_some hm).trans hr
  exact ⟨hpresent, hpayload, hl2rx, hready, (exsReady_present hpresent).trans hready⟩

/-- A beat that waits on `URX[k]` is there again, on that port. -/
theorem urxAt_held (h : holdsUntilTransfer (runCycle s) (runCycle (runCycle s)) = true) {k : Nat}
    (hv : (urxAt s k).valid = true) (hr : s.urxReadyAt k = false) : urxAt (runCycle s) k = urxAt s k := by
  obtain ⟨hpresent, hpayload, hl2rx, hrxo, hexs⟩ := l2rx_waits hv hr
  have hin : (runCycle s).curIn.l2rx = s.curIn.l2rx := (held_inputs h).2 hl2rx ((l2rxReady_payload hpayload).trans hexs)
  have hex : (runCycle s).ex = s.ex := by
    rw [runCycle_ex, exNext_payload hpayload, hexs, Bool.and_false, if_neg Bool.false_ne_true]
  have hrx : (runCycle s).rx = s.rx := by
    rw [runCycle_rx, rxNext_present hpresent, hrxo, Bool.and_false, Bool.false_and, if_neg Bool.false_ne_true]
  have hbyte : exs (runCycle s) = exs s := by rw [exs, exs, hin, hex]
  have hbeat : rxo (runCycle s) = rxo s := by rw [rxo, rxo, hbyte, hex, hrx]
  have hport : matchedPort (runCycle s) = matchedPort s := by
    rw [matchedPort, matchedPort, matchProtocol, matchProtocol, hex, hrx, runCycle_cfg]
  rw [urxAt, urxAt, hport, hbeat]

/-- Settles O52, one lemma per stream: the outputs of the two cycles are those of the outputs rules for `s` and for the state after it. -/
theorem outputsHoldUntilTransfer : Obligations.OutputsHoldUntilTransfer := by
  unfold Obligations.OutputsHoldUntilTransfer
  intro s t v hs hrun hrun' h h' hold
  obtain rfl := step_running hrun h
  obtain rfl := step_running hrun' h'
  rw [runCycle_out, runCycle_out, runCycle_seen]
  refine ⟨arq_held, l2tx_held hs hold, fun k hk => ?_⟩
  show ((urx s).getD k {}).valid = true → _ → (urx (runCycle s)).getD k {} = (urx s).getD k {}
  rw [urx_getD, urx_getD]
  exact fun hv hr => urxAt_held hold hv (by rw [State.urxReadyAt, if_pos hk, hr])

end Sys2Proof.Machine
end

section
/-! SUPPORT. The reset cycle (70_reset_and_hazards.md R400 to R402). -/

namespace Sys2Proof.Machine

/-- `RESET` writes the values of R43 for the configuration the state holds, drives 0 on every output and ends the cycle. -/
theorem resetCycle_eq (s : State) : resetCycle s = { s.resetRegisters with
    out := Outputs.zero s.cfg.nports, events := [], inputs := s.inputs.tail, seen := s.curIn, cycle := s.cycle + 1 } := rfl

/-- Settles O44: the values `State.resetRegisters` and `Outputs.zero` write are the listed ones. -/
theorem resetClearsEveryRegister : Obligations.ResetClearsEveryRegister := by
  unfold Obligations.ResetClearsEveryRegister
  intro s
  show Host.Outcome.next (resetCycle s) = _
  rw [resetCycle_eq]
  rfl

end Sys2Proof.Machine
end
